-- ==== Sys2Proof/Word.lean ====
section
/-! DEFINITION. The fixed-width unsigned values of SPN-CORE (00_scope.md R7: every quantity is an unsigned integer
of fixed width, bit 0 the least significant). -/
namespace Sys2Proof

/-- A command word or response data: 32 bits (30_encoding.md R80, R95). -/
abbrev Word := BitVec 32

/-- A block, the document's "State": plaintext, intermediate round value or ciphertext, 16 bits (10_state.md R21). -/
abbrev Block := BitVec 16

/-- Four bits of a block; also an index into the 16-entry tables and a linear form id (45_lat.md R160). -/
abbrev Nibble := BitVec 4

/-- A seed byte, a candidate (46_recovery.md R176) or the mask `UMASK`. -/
abbrev Byte := BitVec 8

/-- The 80-bit result of `HASH` (43_key_schedule.md R131). -/
abbrev Digest := BitVec 80

/-- A table of 16 four-bit entries (10_state.md R38). -/
abbrev Table := Vector Nibble 16

end Sys2Proof
end

