-- ==== Sys2Proof/Syntax.lean ====
section
/-! DEFINITION. The 33 commands of SPN-CORE command set v1, one constructor per row of opcode_table.json
(30_encoding.md R90), each with the operand fields of its format (R81 to R89) at their own widths. -/
namespace Sys2Proof

/-- A command. Operands carry the names of the format's fields. -/
inductive Instr where
  /-- `LDA imm24`, format I (47_data_and_read.md R200). -/
  | lda (imm24 : BitVec 24)
  /-- `LDP imm24`, format I (47_data_and_read.md R201). -/
  | ldp (imm24 : BitVec 24)
  /-- `MVP`, format Z (47_data_and_read.md R202). -/
  | mvp
  /-- `KSET r, imm20`, format K (43_key_schedule.md R136). -/
  | kset (r : BitVec 4) (imm20 : BitVec 20)
  /-- `KCLR`, format Z (43_key_schedule.md R137). -/
  | kclr
  /-- `SEEDB imm8`, format B (43_key_schedule.md R133). -/
  | seedb (imm8 : Byte)
  /-- `SEEDC`, format Z (43_key_schedule.md R134). -/
  | seedc
  /-- `KGEN`, format Z (43_key_schedule.md R135). -/
  | kgen
  /-- `XORK r`, format R (44_cipher.md R150). -/
  | xork (r : BitVec 4)
  /-- `SUBF`, format Z (41_substitution.md R113). -/
  | subf
  /-- `SUBI`, format Z (41_substitution.md R114). -/
  | subi
  /-- `PERM`, format Z (42_permutation.md R122). -/
  | perm
  /-- `ENC`, format Z (44_cipher.md R151). -/
  | enc
  /-- `DEC`, format Z (44_cipher.md R152). -/
  | dec
  /-- `LATB`, format Z (45_lat.md R165). -/
  | latb
  /-- `APXP imm16`, format H (46_recovery.md R179). -/
  | apxp (imm16 : BitVec 16)
  /-- `APXU thi, tlo, umask`, format U (46_recovery.md R180). -/
  | apxu (thi tlo : BitVec 2) (umask : Byte)
  /-- `RINIT`, format Z (46_recovery.md R181). -/
  | rinit
  /-- `SMP`, format Z (46_recovery.md R182). -/
  | smp
  /-- `RECOV`, format Z (46_recovery.md R185). -/
  | recov
  /-- `RDA`, format Z (47_data_and_read.md R203). -/
  | rda
  /-- `RDP`, format Z (47_data_and_read.md R204). -/
  | rdp
  /-- `RDK r`, format R (43_key_schedule.md R138). -/
  | rdk (r : BitVec 4)
  /-- `RDST`, format Z (47_data_and_read.md R205). -/
  | rdst
  /-- `RDSF x`, format X (41_substitution.md R115). -/
  | rdsf (x : Nibble)
  /-- `RDSI x`, format X (41_substitution.md R116). -/
  | rdsi (x : Nibble)
  /-- `RDPB x`, format X (42_permutation.md R123). -/
  | rdpb (x : Nibble)
  /-- `RDLAT a, b`, format L (45_lat.md R166). -/
  | rdlat (a b : Nibble)
  /-- `RDCNT imm8`, format B (46_recovery.md R186). -/
  | rdcnt (imm8 : Byte)
  /-- `RDN`, format Z (46_recovery.md R187). -/
  | rdn
  /-- `RDCAND`, format Z (46_recovery.md R188). -/
  | rdcand
  /-- `RDDEV imm8`, format B (46_recovery.md R189). -/
  | rddev (imm8 : Byte)
  /-- `RDAPX`, format Z (46_recovery.md R190). -/
  | rdapx
deriving DecidableEq, Repr

end Sys2Proof
end

