-- ==== Sys2Proof/WellFormed.lean ====
section
/-! DEFINITION. Which commands are legal: the two conditions on operand fields of 30_encoding.md R92, items (c) and
(d). Every other operand field is legal at each of its values. -/
namespace Sys2Proof

/-- A subkey number is one of 1..5 (30_encoding.md R84, R85, R92 (c)). -/
def legalSubkey (r : BitVec 4) : Bool := decide (1 ≤ r.toNat ∧ r.toNat ≤ 5)

/-- The two target units differ (30_encoding.md R89, R92 (d)). -/
def distinctUnits (thi tlo : BitVec 2) : Bool := decide (thi ≠ tlo)

/-- The operand fields of a command are legal (30_encoding.md R92). -/
def Instr.wellFormed : Instr → Bool
  | .lda _ => true
  | .ldp _ => true
  | .mvp => true
  | .kset r _ => legalSubkey r
  | .kclr => true
  | .seedb _ => true
  | .seedc => true
  | .kgen => true
  | .xork r => legalSubkey r
  | .subf => true
  | .subi => true
  | .perm => true
  | .enc => true
  | .dec => true
  | .latb => true
  | .apxp _ => true
  | .apxu thi tlo _ => distinctUnits thi tlo
  | .rinit => true
  | .smp => true
  | .recov => true
  | .rda => true
  | .rdp => true
  | .rdk r => legalSubkey r
  | .rdst => true
  | .rdsf _ => true
  | .rdsi _ => true
  | .rdpb _ => true
  | .rdlat _ _ => true
  | .rdcnt _ => true
  | .rdn => true
  | .rdcand => true
  | .rddev _ => true
  | .rdapx => true

/-- A command with legal operand fields. -/
abbrev WellFormed (i : Instr) : Prop := i.wellFormed = true

end Sys2Proof
end

