-- ==== Sys2Proof/Decode.lean ====
section
/-! DEFINITION. The decoder, total on all 2^32 words (30_encoding.md R92), and the encoder, both written from the
formats R81 to R89 and the opcode map R90. -/
namespace Sys2Proof

/-- Why a word is illegal: the four items of 30_encoding.md R92, in the order R94 checks them. -/
inductive IllegalWord where
  /-- (a) The opcode is not one of the 33 of R90. -/
  | unknownOpcode
  /-- (b) A bit marked zero in the command's format is 1. -/
  | reservedBits
  /-- (c) The `r` field of format K or R is 0 or 6..15. -/
  | subkeyNumber
  /-- (d) `thi = tlo` in format U. -/
  | equalUnits
deriving DecidableEq, Repr

/-- What the decoder answers for a word: one of the 33 commands, or the reason the word is illegal. -/
inductive Decoded where
  | command (i : Instr)
  | illegal (why : IllegalWord)
deriving DecidableEq, Repr

/-! ## The operand field, format by format (R81 to R89) -/

/-- Format Z (R81): bits 23:0 are zero. -/
def decodeZ (i : Instr) (o : BitVec 24) : Decoded :=
  if o = 0#24 then .command i else .illegal .reservedBits

/-- Format I (R82): bits 23:0 are `imm24`. -/
def decodeI (i : BitVec 24 → Instr) (o : BitVec 24) : Decoded :=
  .command (i o)

/-- Format H (R83): bits 23:16 are zero, bits 15:0 are `imm16`. -/
def decodeH (i : BitVec 16 → Instr) (o : BitVec 24) : Decoded :=
  if o.extractLsb' 16 8 = 0#8 then .command (i (o.extractLsb' 0 16)) else .illegal .reservedBits

/-- Format K (R84): bits 23:20 are `r`, bits 19:0 are `imm20`. -/
def decodeK (i : BitVec 4 → BitVec 20 → Instr) (o : BitVec 24) : Decoded :=
  if legalSubkey (o.extractLsb' 20 4) then .command (i (o.extractLsb' 20 4) (o.extractLsb' 0 20))
  else .illegal .subkeyNumber

/-- Format R (R85): bits 23:20 are `r`, bits 19:0 are zero. -/
def decodeR (i : BitVec 4 → Instr) (o : BitVec 24) : Decoded :=
  if o.extractLsb' 0 20 = 0#20 then
    if legalSubkey (o.extractLsb' 20 4) then .command (i (o.extractLsb' 20 4)) else .illegal .subkeyNumber
  else .illegal .reservedBits

/-- Format B (R86): bits 23:8 are zero, bits 7:0 are `imm8`. -/
def decodeB (i : Byte → Instr) (o : BitVec 24) : Decoded :=
  if o.extractLsb' 8 16 = 0#16 then .command (i (o.extractLsb' 0 8)) else .illegal .reservedBits

/-- Format X (R87): bits 23:4 are zero, bits 3:0 are `x`. -/
def decodeX (i : Nibble → Instr) (o : BitVec 24) : Decoded :=
  if o.extractLsb' 4 20 = 0#20 then .command (i (o.extractLsb' 0 4)) else .illegal .reservedBits

/-- Format L (R88): bits 23:8 are zero, bits 7:4 are `a`, bits 3:0 are `b`. -/
def decodeL (i : Nibble → Nibble → Instr) (o : BitVec 24) : Decoded :=
  if o.extractLsb' 8 16 = 0#16 then .command (i (o.extractLsb' 4 4) (o.extractLsb' 0 4))
  else .illegal .reservedBits

/-- Format U (R89): bits 23:12 are zero, bits 11:10 are `thi`, bits 9:8 are `tlo`, bits 7:0 are `umask`. -/
def decodeU (i : BitVec 2 → BitVec 2 → Byte → Instr) (o : BitVec 24) : Decoded :=
  if o.extractLsb' 12 12 = 0#12 then
    if distinctUnits (o.extractLsb' 10 2) (o.extractLsb' 8 2) then
      .command (i (o.extractLsb' 10 2) (o.extractLsb' 8 2) (o.extractLsb' 0 8))
    else .illegal .equalUnits
  else .illegal .reservedBits

/-- The opcode map (R90): the whole 8-bit opcode selects the command and the format of its operand field. -/
def decodeFields (op : BitVec 8) (o : BitVec 24) : Decoded :=
  match op.toNat with
  | 0x01 => decodeI .lda o
  | 0x02 => decodeI .ldp o
  | 0x03 => decodeZ .mvp o
  | 0x10 => decodeK .kset o
  | 0x11 => decodeZ .kclr o
  | 0x12 => decodeB .seedb o
  | 0x13 => decodeZ .seedc o
  | 0x14 => decodeZ .kgen o
  | 0x20 => decodeR .xork o
  | 0x21 => decodeZ .subf o
  | 0x22 => decodeZ .subi o
  | 0x23 => decodeZ .perm o
  | 0x24 => decodeZ .enc o
  | 0x25 => decodeZ .dec o
  | 0x30 => decodeZ .latb o
  | 0x40 => decodeH .apxp o
  | 0x41 => decodeU .apxu o
  | 0x42 => decodeZ .rinit o
  | 0x43 => decodeZ .smp o
  | 0x44 => decodeZ .recov o
  | 0x80 => decodeZ .rda o
  | 0x81 => decodeZ .rdp o
  | 0x82 => decodeR .rdk o
  | 0x83 => decodeZ .rdst o
  | 0x84 => decodeX .rdsf o
  | 0x85 => decodeX .rdsi o
  | 0x86 => decodeX .rdpb o
  | 0x87 => decodeL .rdlat o
  | 0x88 => decodeB .rdcnt o
  | 0x89 => decodeZ .rdn o
  | 0x8A => decodeZ .rdcand o
  | 0x8B => decodeB .rddev o
  | 0x8C => decodeZ .rdapx o
  | _ => .illegal .unknownOpcode

/-- The decoder: bits 31:24 of a command word are the opcode, bits 23:0 the operand field (R80). -/
def decode (w : Word) : Decoded :=
  decodeFields (w.extractLsb' 24 8) (w.extractLsb' 0 24)

/-- The command word that an instruction's bits `w`, numbered as opcode_table.json numbers them, make up: the bits
from `nbits` on are zero, and the word has 32 (30_encoding.md R80). -/
def tableWord (nbits w : Nat) : Word := BitVec.ofNat 32 (w % 2 ^ nbits)

/-- The command the decoder reads from those bits, if the word is legal. -/
def decodeTableWord (nbits w : Nat) : Option Instr :=
  match decode (tableWord nbits w) with
  | .command i => some i
  | .illegal _ => none

/-! ## The encoder (R80 to R90) -/

/-- The operand field of a command, laid out by its format (R81 to R89). -/
def operandField : Instr → BitVec 24
  | .lda imm24 => imm24
  | .ldp imm24 => imm24
  | .mvp => 0#24
  | .kset r imm20 => r ++ imm20
  | .kclr => 0#24
  | .seedb imm8 => 0#16 ++ imm8
  | .seedc => 0#24
  | .kgen => 0#24
  | .xork r => r ++ 0#20
  | .subf => 0#24
  | .subi => 0#24
  | .perm => 0#24
  | .enc => 0#24
  | .dec => 0#24
  | .latb => 0#24
  | .apxp imm16 => 0#8 ++ imm16
  | .apxu thi tlo umask => 0#12 ++ thi ++ tlo ++ umask
  | .rinit => 0#24
  | .smp => 0#24
  | .recov => 0#24
  | .rda => 0#24
  | .rdp => 0#24
  | .rdk r => r ++ 0#20
  | .rdst => 0#24
  | .rdsf x => 0#20 ++ x
  | .rdsi x => 0#20 ++ x
  | .rdpb x => 0#20 ++ x
  | .rdlat a b => 0#16 ++ a ++ b
  | .rdcnt imm8 => 0#16 ++ imm8
  | .rdn => 0#24
  | .rdcand => 0#24
  | .rddev imm8 => 0#16 ++ imm8
  | .rdapx => 0#24

/-- The opcode of a command (R90). -/
def opcode : Instr → BitVec 8
  | .lda _ => 0x01#8
  | .ldp _ => 0x02#8
  | .mvp => 0x03#8
  | .kset _ _ => 0x10#8
  | .kclr => 0x11#8
  | .seedb _ => 0x12#8
  | .seedc => 0x13#8
  | .kgen => 0x14#8
  | .xork _ => 0x20#8
  | .subf => 0x21#8
  | .subi => 0x22#8
  | .perm => 0x23#8
  | .enc => 0x24#8
  | .dec => 0x25#8
  | .latb => 0x30#8
  | .apxp _ => 0x40#8
  | .apxu _ _ _ => 0x41#8
  | .rinit => 0x42#8
  | .smp => 0x43#8
  | .recov => 0x44#8
  | .rda => 0x80#8
  | .rdp => 0x81#8
  | .rdk _ => 0x82#8
  | .rdst => 0x83#8
  | .rdsf _ => 0x84#8
  | .rdsi _ => 0x85#8
  | .rdpb _ => 0x86#8
  | .rdlat _ _ => 0x87#8
  | .rdcnt _ => 0x88#8
  | .rdn => 0x89#8
  | .rdcand => 0x8A#8
  | .rddev _ => 0x8B#8
  | .rdapx => 0x8C#8

/-- The command word of a command: the opcode above the operand field (R80). -/
def encode (i : Instr) : Word := opcode i ++ operandField i

end Sys2Proof
end

