-- ==== Sys2Proof/Config.lean ====
section
/-! DEFINITION. What an instance of SPN-CORE fixes and no command or reset changes (00_scope.md R5, 10_state.md R38,
70_reset_and_hazards.md R262): the substitution pair, the permutation table and the hash. The chip's own
configuration is an opaque constant, so a statement about the chip holds for every configuration that meets R38. -/
namespace Sys2Proof

/-- `SBOX` and `SBOX_INV` as one invertible pair, validated when it is built (10_state.md R38, items 1 and 2): the
inverse is the exact set-inverse of the forward table. (The values after `:=` only make the type inhabited.) -/
structure SBox where
  forward : Table := Vector.ofFn fun i => BitVec.ofFin i
  inverse : Table := Vector.ofFn fun i => BitVec.ofFin i
  inverse_forward : ∀ x : Nibble, inverse.get (forward.get x.toFin).toFin = x := by decide
  forward_inverse : ∀ x : Nibble, forward.get (inverse.get x.toFin).toFin = x := by decide
deriving Inhabited

/-- `PBOX`, a table of bit positions that is its own inverse (10_state.md R38, items 3 and 4). A table that is not
an involution cannot be built (42_permutation.md R124, 93_implementation_defined.md U4). -/
structure PBox where
  table : Table := Vector.ofFn fun i => BitVec.ofFin i
  involution : ∀ i : Nibble, table.get (table.get i.toFin).toFin = i := by decide
deriving Inhabited

/-- The configuration of an instance: the tables of 10_state.md R38 and the function `HASH` of 43_key_schedule.md
R131 (typed on every byte string; the rules apply it to strings of 16 to 64 bytes only, log entry 5). -/
structure Config where
  sbox : SBox
  pbox : PBox
  hash : List Byte → Digest
deriving Inhabited

/-- The configuration of the chip that `exec` and `step` model: open (00_scope.md R5), so opaque (log entry 4). -/
opaque Config.chip : Config

/-- The substitution pair of the default instantiation (10_state.md R39, PRESUMED, log entry 6). It is used by worked
examples only. -/
def SBox.defaultInstantiation : SBox where
  forward := #v[0xE, 0x4, 0xD, 0x1, 0x2, 0xF, 0xB, 0x8, 0x3, 0xA, 0x6, 0xC, 0x5, 0x9, 0x0, 0x7]
  inverse := #v[0xE, 0x3, 0x4, 0x8, 0x1, 0xC, 0xA, 0xF, 0x7, 0xD, 0x9, 0x6, 0xB, 0x2, 0x0, 0x5]
  inverse_forward := by decide
  forward_inverse := by decide

/-- The permutation table of the default instantiation (10_state.md R39, PRESUMED, log entry 6). -/
def PBox.defaultInstantiation : PBox where
  table := #v[0, 4, 8, 12, 1, 5, 9, 13, 2, 6, 10, 14, 3, 7, 11, 15]
  involution := by decide

/-- The default instantiation of the tables with a given `HASH`, which R39 leaves open. -/
def Config.defaultTables (hash : List Byte → Digest) : Config where
  sbox := SBox.defaultInstantiation
  pbox := PBox.defaultInstantiation
  hash := hash

end Sys2Proof
end

