-- ==== Sys2Proof/Machine/Operands.lean ====
section
/-! DEFINITION. How operand fields and blocks are taken apart and put together: nibbles, table look-up, parity, range
checks, subkey numbers (00_scope.md R7, 30_encoding.md R91, R92). -/
namespace Sys2Proof.Machine

/-- `nib(s, j)`: bits `4j+3 : 4j` of a block (00_scope.md R7). -/
def nib (s : Block) (j : BitVec 2) : Nibble := s.extractLsb' (4 * j.toNat) 4

/-- The block of four nibbles, the first the most significant (00_scope.md R7). -/
def ofNibbles (n3 n2 n1 n0 : Nibble) : Block := n3 ++ n2 ++ n1 ++ n0

/-- The high nibble of a candidate or of a hypothesised byte (46_recovery.md R176, R177). -/
def hiNibble (c : Byte) : Nibble := c.extractLsb' 4 4

/-- The low nibble of a candidate or of a hypothesised byte (46_recovery.md R176, R177). -/
def loNibble (c : Byte) : Nibble := c.extractLsb' 0 4

/-- `substitute(n, T)`: the entry of a table at a nibble (41_substitution.md R110). -/
def substitute (n : Nibble) (T : Table) : Nibble := T.get n.toFin

/-- The exclusive-or of the low `m` bits of a value. -/
def parityBelow {w : Nat} (x : BitVec w) : Nat → Bool
  | 0 => false
  | m + 1 => Bool.xor (parityBelow x m) (x.getLsbD m)

/-- `parity(x)`: the exclusive-or of all bits of `x`, `true` for 1 (00_scope.md R7). -/
def parity {w : Nat} (x : BitVec w) : Bool := parityBelow x w

/-- The value fits 16 bits (30_encoding.md R91): the range check of `imm24` and `imm20`. -/
def fits16 {w : Nat} (x : BitVec w) : Bool := decide (x.toNat ≤ 0xFFFF)

/-- The array index of the subkey number `r` when it is one of 1..5 (30_encoding.md R92 (c)). -/
def subkeyIndex (r : BitVec 4) : Option (Fin 5) :=
  if h : 1 ≤ r.toNat ∧ r.toNat ≤ 5 then some ⟨r.toNat - 1, by omega⟩ else none

/-- An array given entry by entry: all entries are written at once (20_memory.md R63, R69). -/
def tabulate {α : Type} {n : Nat} (f : Fin n → α) : Vector α n := ⟨⟨List.ofFn f⟩, by simp⟩

end Sys2Proof.Machine
end

