-- ==== Sys2Proof/Machine/State.lean ====
section
/-! DEFINITION. The state of SPN-CORE: the elements of 10_state.md R20, the command port and the response port
(30_encoding.md R95, 70_reset_and_hazards.md R265), and the state after reset (R261). -/
namespace Sys2Proof.Machine

/-- A cell of the LAT: a count 0..16 in 5 bits (10_state.md R26). -/
abbrev LatCell := BitVec 5

/-- The failure kinds (60_exceptions.md R231). A failing command takes a NEXT state, so these are values in
responses and no `Fault`. -/
inductive FailKind where
  /-- "input exceeds 16 bits" (R232). -/
  | invalidBlockSize
  /-- "fewer than 5 subkeys or any subkey exceeds 16 bits" (R233). -/
  | invalidKeyMaterial
  /-- "seed source failed": fewer than 16 seed bytes (R234). -/
  | entropyUnavailable
  /-- "recovery engine invoked with zero samples" (R235). -/
  | emptySampleSet
  /-- The command word is no legal encoding (R236). -/
  | illegalCommand
  /-- A result is read before the command that produces it has succeeded (R237). -/
  | notReady
  /-- A bounded resource is full (R238). -/
  | capacity
deriving DecidableEq, Repr

/-- What the host presents to the core (00_scope.md R6, 70_reset_and_hazards.md R260). -/
inductive Event where
  /-- A command word on the command port. -/
  | command (w : Word)
  /-- The reset event, between two commands. -/
  | reset
  /-- The reset event while the command `w` is in progress: the command is not executed and gets no response
  (R260, log entry 8). -/
  | resetDuring (w : Word)
deriving DecidableEq, Repr

/-- The response to one command (30_encoding.md R95). -/
structure Response where
  code : BitVec 4
  data : Word
deriving DecidableEq, Repr

/-- The state of the machine. Every field but the last two is an element of 10_state.md R20; `input` and `output` are
the model's own (log entry 1). Arrays are indexed from 0, so `K[r]` and `KV[r]` stand at index `r - 1`. -/
structure State where
  /-- `A`, the block register (R21). -/
  a : Block
  /-- `P`, the plaintext register (R22). -/
  p : Block
  /-- `K[1..5]`, the round subkeys (R23). -/
  k : Vector Block 5
  /-- `KV[1..5]`, the subkey-present flags (R24). -/
  kv : Vector Bool 5
  /-- `SEED[0..63]`, the seed buffer (R25). -/
  seed : Vector Byte 64
  /-- `SEEDLEN`, the number of valid seed bytes (R25). -/
  seedLen : BitVec 7
  /-- `LAT[a][b]`, the Linear Approximation Table (R26). -/
  lat : Vector (Vector LatCell 16) 16
  /-- `LATV`, the LAT-built flag (R27). -/
  latv : Bool
  /-- `CNT[c]`, the bias counters (R28). -/
  cnt : Vector Word 256
  /-- `N`, the samples processed in this attack run (R29). -/
  n : Word
  /-- `PMASK`, the plaintext mask of the approximation (R30). -/
  pmask : Block
  /-- `UMASK`, the mask over the hypothesised byte (R31). -/
  umask : Byte
  /-- `THI`, the unit matched with a candidate's high nibble (R32). -/
  thi : BitVec 2
  /-- `TLO`, the unit matched with a candidate's low nibble (R32). -/
  tlo : BitVec 2
  /-- `CAND`, the selected candidate (R33). -/
  cand : Byte
  /-- `RESV`, the result-valid flag (R34). -/
  resv : Bool
  /-- `ERR`, the first failure code since reset (R35). -/
  err : BitVec 4
  /-- The events the host has yet to present, oldest first. -/
  input : List Event
  /-- The responses the core has given, oldest first. -/
  output : List Response
deriving DecidableEq, Repr

/-- Reasons to stop with a fault: none. No rule of the spec stops the core; a failing command answers with a code and
the core takes the next command (60_exceptions.md R230, R241, log entry 13). -/
inductive Fault
deriving DecidableEq, Repr

/-- Reasons to refuse. -/
inductive Refusal where
  /-- Raised by an arm of `exec` whose command has no meaning yet, and by nothing else; safe. No arm of this model
  raises it. -/
  | notModelled (mnemonic : String)
deriving DecidableEq, Repr

/-- What a command answers. -/
abbrev Result := Host.Outcome State Fault Refusal

/-- The state after reset (70_reset_and_hazards.md R261). `SEED` and `LAT` are unspecified there and no rule reads
them; they are zero here (DESIGN CHOICE, log entry 3). -/
def State.reset : State where
  a := 0x0000#16
  p := 0x0000#16
  k := Vector.replicate 5 0x0000#16
  kv := Vector.replicate 5 false
  seed := Vector.replicate 64 0x00#8
  seedLen := 0#7
  lat := Vector.replicate 16 (Vector.replicate 16 0#5)
  latv := false
  cnt := Vector.replicate 256 0#32
  n := 0#32
  pmask := 0x0000#16
  umask := 0x00#8
  thi := 1#2
  tlo := 0#2
  cand := 0x00#8
  resv := false
  err := 0#4
  input := []
  output := []

end Sys2Proof.Machine
end

