-- ==== Sys2Proof/Machine/Flags.lean ====
section
/-! DEFINITION. The failure codes, the sticky failure record, the key-complete condition and the two read-only views
(10_state.md R24, R35 to R37; 60_exceptions.md R231, R240). -/
namespace Sys2Proof.Machine

/-- The code number of a failure kind (60_exceptions.md R231). -/
def FailKind.code : FailKind → BitVec 4
  | .invalidBlockSize => 1
  | .invalidKeyMaterial => 2
  | .entropyUnavailable => 3
  | .emptySampleSet => 4
  | .illegalCommand => 5
  | .notReady => 6
  | .capacity => 7

/-- `ERR` after a failure of kind `e`: the first code since reset stays (10_state.md R35, 60_exceptions.md R240). -/
def stickyErr (err : BitVec 4) (e : FailKind) : BitVec 4 := if err = 0 then e.code else err

/-- Key material is complete: all five flags are set (10_state.md R24). -/
def State.keyComplete (s : State) : Bool :=
  s.kv.get 0 && s.kv.get 1 && s.kv.get 2 && s.kv.get 3 && s.kv.get 4

/-- One flag as a bit at position `i` of a word. -/
def flagAt (b : Bool) (i : Nat) : Word := (BitVec.ofBool b).setWidth 32 <<< i

/-- The view `STATUS` (10_state.md R36). -/
def State.status (s : State) : Word :=
  flagAt (s.kv.get 0) 0 ||| flagAt (s.kv.get 1) 1 ||| flagAt (s.kv.get 2) 2 ||| flagAt (s.kv.get 3) 3 |||
    flagAt (s.kv.get 4) 4 ||| flagAt s.latv 5 ||| flagAt s.resv 6 ||| s.err.setWidth 32 <<< 8 |||
    s.seedLen.setWidth 32 <<< 16

/-- The view `APX` (10_state.md R37, 46_recovery.md R190). -/
def State.apx (s : State) : Word :=
  s.pmask.setWidth 32 <<< 16 ||| s.thi.setWidth 32 <<< 10 ||| s.tlo.setWidth 32 <<< 8 ||| s.umask.setWidth 32

end Sys2Proof.Machine
end

