-- ==== Sys2Proof/Machine/Ops.lean ====
section
/-! DEFINITION. The named operations over the state: the writes of each element, the end of a command (`ok`, `fail`,
00_scope.md R8), and the events of the host (70_reset_and_hazards.md R260, R265). -/
namespace Sys2Proof.Machine

/-! ## Writes of the elements of 10_state.md R20 -/

/-- `A <- v`. -/
def State.setA (s : State) (v : Block) : State := { s with a := v }

/-- `P <- v`. -/
def State.setP (s : State) (v : Block) : State := { s with p := v }

/-- `K[r] <- v; KV[r] <- 1` at index `i = r - 1` (43_key_schedule.md R136). -/
def State.setKey (s : State) (i : Fin 5) (v : Block) : State :=
  { s with k := s.k.set i v, kv := s.kv.set i true }

/-- `K[1..5] <- ks; KV[1..5] <- 1` (43_key_schedule.md R135). -/
def State.setKeys (s : State) (ks : Vector Block 5) : State :=
  { s with k := ks, kv := Vector.replicate 5 true }

/-- `K[1..5] <- 0; KV[1..5] <- 0` (43_key_schedule.md R137). -/
def State.clearKeys (s : State) : State :=
  { s with k := Vector.replicate 5 0x0000#16, kv := Vector.replicate 5 false }

/-- `SEED[SEEDLEN] <- b; SEEDLEN <- SEEDLEN + 1` (43_key_schedule.md R133). -/
def State.pushSeed (s : State) (b : Byte) : State :=
  { s with seed := s.seed.setIfInBounds s.seedLen.toNat b, seedLen := s.seedLen + 1 }

/-- `SEEDLEN <- 0` (43_key_schedule.md R134, R135). -/
def State.dropSeed (s : State) : State := { s with seedLen := 0 }

/-- The valid seed bytes `SEED[0 .. SEEDLEN-1]`, first pushed first (20_memory.md R61). -/
def State.seedBytes (s : State) : List Byte := s.seed.toList.take s.seedLen.toNat

/-- `LAT <- t; LATV <- 1` (45_lat.md R165). -/
def State.setLat (s : State) (t : Vector (Vector LatCell 16) 16) : State := { s with lat := t, latv := true }

/-- `PMASK <- m` (46_recovery.md R179). -/
def State.setPmask (s : State) (m : Block) : State := { s with pmask := m }

/-- `THI <- thi; TLO <- tlo; UMASK <- umask` (46_recovery.md R180). -/
def State.setTarget (s : State) (thi tlo : BitVec 2) (umask : Byte) : State :=
  { s with thi := thi, tlo := tlo, umask := umask }

/-- `CNT <- counts; N <- n; CAND <- 0; RESV <- 0` (46_recovery.md R181, R182): new counters make the result stale. -/
def State.setCounts (s : State) (counts : Vector Word 256) (n : Word) : State :=
  { s with cnt := counts, n := n, cand := 0x00, resv := false }

/-- `CAND <- c; RESV <- 1` (46_recovery.md R185). -/
def State.setResult (s : State) (c : Byte) : State := { s with cand := c, resv := true }

/-! ## The end of a command -/

/-- The one response of a command, put on the response port (30_encoding.md R95). -/
def State.respond (s : State) (r : Response) : State := { s with output := s.output ++ [r] }

/-- `ok(data)`: success (00_scope.md R8). -/
def ok (data : Word) (s : State) : Result := .next (s.respond ⟨0, data⟩)

/-- The state a command of kind `e` of failure leaves when it was issued in `s`: nothing changes but `ERR`, and the
response is the code with data 0 (60_exceptions.md R230, R240). -/
def State.failed (s : State) (e : FailKind) : State :=
  { s with err := stickyErr s.err e, output := s.output ++ [⟨e.code, 0⟩] }

/-- `fail(e)`: taking a failure, the only exception of this machine (00_scope.md R8, 60_exceptions.md R240). There is
no return from it: the next command is accepted as after a success (R241). -/
def fail (e : FailKind) (s : State) : Result := .next (s.failed e)

/-- A command that writes `A` returns the new `A` (30_encoding.md R95). -/
def okA (v : Block) (s : State) : Result := ok (v.setWidth 32) (s.setA v)

/-! ## The host's events -/

/-- The host has `e` as the next event to present (70_reset_and_hazards.md R265). -/
def State.present (s : State) (e : Event) : State := { s with input := e :: s.input }

/-- The reset event (70_reset_and_hazards.md R260, R261): every element takes its reset value. What the host still
has to present and the responses it already has are not core state (log entry 14). -/
def State.takeReset (s : State) : State := { State.reset with input := s.input, output := s.output }

/-- The command word on the port is illegal (30_encoding.md R92, 60_exceptions.md R236). -/
def rejectWord (s : State) : Result := fail .illegalCommand s

/-- The next event the host presents, and the state with it taken off the port. -/
def State.nextEvent (s : State) : Option (Event × State) :=
  match s.input with
  | [] => none
  | e :: rest => some (e, { s with input := rest })

end Sys2Proof.Machine
end

