-- ==== Sys2Proof/Machine/Permutation.lean ====
section
/-! DEFINITION. The permutation unit: PERM, RDPB (42_permutation.md R120 to R124). -/
namespace Sys2Proof.Machine

/-- One pass of the loop of R120: if bit `i` of the input is set, set bit `T[i]` of the output. -/
def placeBit (s : Block) (T : Table) (out : Block) (i : Fin 16) : Block :=
  if s.getLsbD i then out ||| (1#16 <<< (T.get i).toNat) else out

/-- `permute(s, T)`: bit `i` of the input lands at bit `T[i]` of the output (R120). -/
def permute (s : Block) (T : Table) : Block := (List.finRange 16).foldl (placeBit s T) 0x0000#16

/-- `Pm(s)` (R120). -/
def perm (pb : PBox) (s : Block) : Block := permute s pb.table

/-- `PERM` in any configuration (R122). -/
def execPermWith (cfg : Config) (s : State) : Result := okA (perm cfg.pbox s.a) s

/-- `RDPB x` in any configuration (R123). -/
def execRdpbWith (cfg : Config) (x : Nibble) (s : State) : Result :=
  ok ((substitute x cfg.pbox.table).setWidth 32) s

/-- `PERM` (R122). -/
def execPerm (s : State) : Result := execPermWith Config.chip s

/-- `RDPB x` (R123). -/
def execRdpb (x : Nibble) (s : State) : Result := execRdpbWith Config.chip x s

end Sys2Proof.Machine
end

