-- ==== Sys2Proof/Machine/Substitution.lean ====
section
/-! DEFINITION. The substitution unit: SUBF, SUBI, RDSF, RDSI (41_substitution.md R110 to R116). A command that reads
a table is defined for every configuration (`…With`); the chip's command is that at `Config.chip`. -/
namespace Sys2Proof.Machine

/-- `apply_to_state(s, T)`: each of the four nibbles is looked up and nibble order is preserved (R111). -/
def applyToState (s : Block) (T : Table) : Block :=
  ofNibbles (substitute (nib s 3) T) (substitute (nib s 2) T) (substitute (nib s 1) T) (substitute (nib s 0) T)

/-- `S(s)` (R111). -/
def sub (sb : SBox) (s : Block) : Block := applyToState s sb.forward

/-- `Sinv(s)` (R111). -/
def subInv (sb : SBox) (s : Block) : Block := applyToState s sb.inverse

/-- `SUBF` in any configuration (R113). -/
def execSubfWith (cfg : Config) (s : State) : Result := okA (sub cfg.sbox s.a) s

/-- `SUBI` in any configuration (R114). -/
def execSubiWith (cfg : Config) (s : State) : Result := okA (subInv cfg.sbox s.a) s

/-- `RDSF x` in any configuration (R115). -/
def execRdsfWith (cfg : Config) (x : Nibble) (s : State) : Result :=
  ok ((substitute x cfg.sbox.forward).setWidth 32) s

/-- `RDSI x` in any configuration (R116). -/
def execRdsiWith (cfg : Config) (x : Nibble) (s : State) : Result :=
  ok ((substitute x cfg.sbox.inverse).setWidth 32) s

/-- `SUBF` (R113). -/
def execSubf (s : State) : Result := execSubfWith Config.chip s

/-- `SUBI` (R114). -/
def execSubi (s : State) : Result := execSubiWith Config.chip s

/-- `RDSF x` (R115). -/
def execRdsf (x : Nibble) (s : State) : Result := execRdsfWith Config.chip x s

/-- `RDSI x` (R116). -/
def execRdsi (x : Nibble) (s : State) : Result := execRdsiWith Config.chip x s

end Sys2Proof.Machine
end

