-- ==== Sys2Proof/Machine/Cipher.lean ====
section
/-! DEFINITION. The cipher round transform: XORK, ENC, DEC (44_cipher.md R145 to R153). -/
namespace Sys2Proof.Machine

/-- Rounds 1 to 3 with subkey `k` (R145): key mixing, substitution, permutation. -/
def round (cfg : Config) (k s : Block) : Block := perm cfg.pbox (sub cfg.sbox (s ^^^ k))

/-- Round 4 (R146): no permutation, and `K5` after the substitution. -/
def round4 (cfg : Config) (k4 k5 s : Block) : Block := sub cfg.sbox (s ^^^ k4) ^^^ k5

/-- One loop pass of decryption (R148): undo the key, un-permute with the same table, substitute back. -/
def unround (cfg : Config) (k t : Block) : Block := subInv cfg.sbox (perm cfg.pbox (t ^^^ k))

/-- The input of round 4: what rounds 1 to 3 leave (`s3` of R147). -/
def afterRound3 (cfg : Config) (k : Vector Block 5) (p : Block) : Block :=
  round cfg (k.get 2) (round cfg (k.get 1) (round cfg (k.get 0) p))

/-- `encrypt(p, (K1..K5))` (R147). -/
def encrypt (cfg : Config) (k : Vector Block 5) (p : Block) : Block :=
  round4 cfg (k.get 3) (k.get 4) (afterRound3 cfg k p)

/-- `decrypt(c, (K1..K5))` (R148): the loop passes undo `K4`, `K3`, `K2` in that order (90_conflicts.md C8). -/
def decrypt (cfg : Config) (k : Vector Block 5) (c : Block) : Block :=
  unround cfg (k.get 1) (unround cfg (k.get 2) (unround cfg (k.get 3) (subInv cfg.sbox (c ^^^ k.get 4)))) ^^^ k.get 0

/-- `XORK r` (R150). -/
def execXork (r : BitVec 4) (s : State) : Result :=
  match subkeyIndex r with
  | none => fail .illegalCommand s
  | some i => if s.kv.get i then okA (s.a ^^^ s.k.get i) s else fail .invalidKeyMaterial s

/-- `ENC` in any configuration (R151). -/
def execEncWith (cfg : Config) (s : State) : Result :=
  if s.keyComplete then okA (encrypt cfg s.k s.a) s else fail .invalidKeyMaterial s

/-- `DEC` in any configuration (R152). -/
def execDecWith (cfg : Config) (s : State) : Result :=
  if s.keyComplete then okA (decrypt cfg s.k s.a) s else fail .invalidKeyMaterial s

/-- `ENC` (R151). -/
def execEnc (s : State) : Result := execEncWith Config.chip s

/-- `DEC` (R152). -/
def execDec (s : State) : Result := execDecWith Config.chip s

end Sys2Proof.Machine
end

