-- ==== Sys2Proof/Machine/KeySchedule.lean ====
section
/-! DEFINITION. The key schedule: SEEDB, SEEDC, KGEN, KSET, KCLR, RDK (43_key_schedule.md R130 to R138). -/
namespace Sys2Proof.Machine

/-- `expand(d)`: the 80-bit digest cut into `K1..K5`, most significant first (R132). -/
def expand (d : Digest) : Vector Block 5 :=
  #v[d.extractLsb' 64 16, d.extractLsb' 48 16, d.extractLsb' 32 16, d.extractLsb' 16 16, d.extractLsb' 0 16]

/-- `generate_key(seed) = expand(HASH(seed))` (R132). -/
def generateKey (cfg : Config) (seed : List Byte) : Vector Block 5 := expand (cfg.hash seed)

/-- `SEEDB imm8` (R133): the 65th byte is refused. -/
def execSeedb (imm8 : Byte) (s : State) : Result :=
  if s.seedLen = 64 then fail .capacity s else ok 0 (s.pushSeed imm8)

/-- `SEEDC` (R134). -/
def execSeedc (s : State) : Result := ok 0 s.dropSeed

/-- `KGEN` in any configuration (R135): a successful one consumes the seed, a failing one keeps it. -/
def execKgenWith (cfg : Config) (s : State) : Result :=
  if s.seedLen.toNat < 16 then fail .entropyUnavailable s
  else ok 0 (s.setKeys (generateKey cfg s.seedBytes)).dropSeed

/-- `KGEN` (R135). -/
def execKgen (s : State) : Result := execKgenWith Config.chip s

/-- `KSET r, imm20` (R136): `r` is checked before the range (60_exceptions.md R239). -/
def execKset (r : BitVec 4) (imm20 : BitVec 20) (s : State) : Result :=
  match subkeyIndex r with
  | none => fail .illegalCommand s
  | some i => if fits16 imm20 then ok 0 (s.setKey i (imm20.setWidth 16)) else fail .invalidKeyMaterial s

/-- `KCLR` (R137). -/
def execKclr (s : State) : Result := ok 0 s.clearKeys

/-- `RDK r` (R138). -/
def execRdk (r : BitVec 4) (s : State) : Result :=
  match subkeyIndex r with
  | none => fail .illegalCommand s
  | some i => if s.kv.get i then ok ((s.k.get i).setWidth 32) s else fail .invalidKeyMaterial s

end Sys2Proof.Machine
end

