-- ==== Sys2Proof/Machine/Lat.lean ====
section
/-! DEFINITION. The Linear Approximation Table builder: LATB, RDLAT (45_lat.md R160 to R168). -/
namespace Sys2Proof.Machine

/-- The value of the linear form `m` on the nibble `v` (R160). -/
def form (m v : Nibble) : Bool := parity (m &&& v)

/-- The input form `a` and the output form `b` agree on the input `v` (R161). -/
def formsAgree (sb : SBox) (a b v : Nibble) : Bool := form a v == form b (substitute v sb.forward)

/-- `lat(a, b)`: on how many of the 16 inputs the two forms agree (R161), for every `a` and `b` (R162,
90_conflicts.md C1). -/
def latCount (sb : SBox) (a b : Nibble) : Nat :=
  (List.finRange 16).countP fun v => formsAgree sb a b (BitVec.ofFin v)

/-- `bias(a, b) = lat(a, b) - 8` (R163). The core stores and returns the count; the host subtracts 8. -/
def bias (sb : SBox) (a b : Nibble) : Int := (latCount sb a b : Int) - 8

/-- The whole table, rows by input form and columns by output form (R161, R165). -/
def latTable (sb : SBox) : Vector (Vector LatCell 16) 16 :=
  tabulate fun a => tabulate fun b => BitVec.ofNat 5 (latCount sb (BitVec.ofFin a) (BitVec.ofFin b))

/-- `LATB` in any configuration (R165). -/
def execLatbWith (cfg : Config) (s : State) : Result := ok 0 (s.setLat (latTable cfg.sbox))

/-- `LATB` (R165). -/
def execLatb (s : State) : Result := execLatbWith Config.chip s

/-- `LAT[a][b]` (10_state.md R26). -/
def State.latCell (s : State) (a b : Nibble) : LatCell := (s.lat.get a.toFin).get b.toFin

/-- `RDLAT a, b` (R166): the count, not the bias (R163). -/
def execRdlat (a b : Nibble) (s : State) : Result :=
  if s.latv then ok ((s.latCell a b).setWidth 32) s else fail .notReady s

end Sys2Proof.Machine
end

