-- ==== Sys2Proof/Machine/Moves.lean ====
section
/-! DEFINITION. Operand moves and status: LDA, LDP, MVP, RDA, RDP, RDST (47_data_and_read.md R200 to R205). -/
namespace Sys2Proof.Machine

/-- `LDA imm24` (R200): a value beyond 16 bits is rejected, never masked. -/
def execLda (imm24 : BitVec 24) (s : State) : Result :=
  if fits16 imm24 then okA (imm24.setWidth 16) s else fail .invalidBlockSize s

/-- `LDP imm24` (R201): returns data 0. -/
def execLdp (imm24 : BitVec 24) (s : State) : Result :=
  if fits16 imm24 then ok 0 (s.setP (imm24.setWidth 16)) else fail .invalidBlockSize s

/-- `MVP` (R202). -/
def execMvp (s : State) : Result := ok 0 (s.setP s.a)

/-- `RDA` (R203). -/
def execRda (s : State) : Result := ok (s.a.setWidth 32) s

/-- `RDP` (R204). -/
def execRdp (s : State) : Result := ok (s.p.setWidth 32) s

/-- `RDST` (R205): reading clears nothing. -/
def execRdst (s : State) : Result := ok s.status s

end Sys2Proof.Machine
end

