-- ==== Sys2Proof/Machine/Recovery.lean ====
section
/-! DEFINITION. The partial-subkey recovery engine: APXP, APXU, RINIT, SMP, RECOV, RDCNT, RDN, RDCAND, RDDEV, RDAPX
(46_recovery.md R175 to R194). -/
namespace Sys2Proof.Machine

/-- The linear approximation, a four-tuple (R175). -/
structure Approximation where
  pmask : Block
  umask : Byte
  thi : BitVec 2
  tlo : BitVec 2
deriving DecidableEq, Repr

/-- The approximation the registers hold (R175). -/
def State.approximation (s : State) : Approximation := ⟨s.pmask, s.umask, s.thi, s.tlo⟩

/-- `truth(K)`: the eight bits of `K5` a candidate guesses (R176). No command computes it. -/
def truth (ap : Approximation) (k5 : Block) : Byte := nib k5 ap.thi ++ nib k5 ap.tlo

/-- `hyp(ct, c)`: the hypothesised last-round substitution-input byte (R177). -/
def hypothesis (sb : SBox) (ap : Approximation) (ct : Block) (c : Byte) : Byte :=
  substitute (nib ct ap.thi ^^^ hiNibble c) sb.inverse ++ substitute (nib ct ap.tlo ^^^ loNibble c) sb.inverse

/-- `t(pt, ct, c)`: the approximation evaluated on a sample and a candidate (R178). -/
def evaluate (sb : SBox) (ap : Approximation) (pt ct : Block) (c : Byte) : Bool :=
  Bool.xor (parity (pt &&& ap.pmask)) (parity (hypothesis sb ap ct c &&& ap.umask))

/-- The counters after one sample: those whose candidate makes `t = 0` go up by 1 (R182, 90_conflicts.md C4). -/
def countSample (sb : SBox) (ap : Approximation) (pt ct : Block) (cnt : Vector Word 256) : Vector Word 256 :=
  tabulate fun c => if evaluate sb ap pt ct (BitVec.ofFin c) then cnt.get c else cnt.get c + 1

/-- `dev2(c) = |2 * CNT[c] - N|` on mathematical integers (R183, 47_data_and_read.md R210 item 5). -/
def dev2 (count n : Word) : Nat := (2 * (count.toNat : Int) - (n.toNat : Int)).natAbs

/-- `score(c) = |CNT[c] - N/2| / N` after `N >= 1` samples, an exact rational number (R183, 47_data_and_read.md R211).
The core returns `dev2` and `N` only; the host divides. -/
def score (count n : Word) : ℚ := |(count.toNat : ℚ) - (n.toNat : ℚ) / 2| / (n.toNat : ℚ)

/-- The candidates not yet scanned, in ascending order, against the best so far: only a strictly greater score
replaces it (R184). -/
def scanCandidates (score : Byte → Nat) : List Byte → Byte → Byte
  | [], best => best
  | c :: rest, best =>
    match decide (score best < score c) with
    | true => scanCandidates score rest c
    | false => scanCandidates score rest best

/-- The 256 candidates in ascending numeric order (R176). -/
def candidates : List Byte := List.ofFn fun c : Fin 256 => BitVec.ofFin c

/-- `select(CNT, N)`: the least candidate of maximal `dev2` (R184). -/
def selectCandidate (cnt : Vector Word 256) (n : Word) : Byte :=
  scanCandidates (fun c => dev2 (cnt.get c.toFin) n) candidates 0x00#8

/-- `APXP imm16` (R179). -/
def execApxp (imm16 : BitVec 16) (s : State) : Result := ok 0 (s.setPmask imm16)

/-- `APXU thi, tlo, umask` (R180): equal units are an illegal command (30_encoding.md R92 (d)). -/
def execApxu (thi tlo : BitVec 2) (umask : Byte) (s : State) : Result :=
  if distinctUnits thi tlo then ok 0 (s.setTarget thi tlo umask) else fail .illegalCommand s

/-- `RINIT` (R181). -/
def execRinit (s : State) : Result := ok 0 (s.setCounts (Vector.replicate 256 0#32) 0)

/-- `SMP` in any configuration (R182): the sample is the pair (`P`, `A`). -/
def execSmpWith (cfg : Config) (s : State) : Result :=
  if s.n = 0xFFFFFFFF then fail .capacity s
  else ok 0 (s.setCounts (countSample cfg.sbox s.approximation s.p s.a s.cnt) (s.n + 1))

/-- `SMP` (R182). -/
def execSmp (s : State) : Result := execSmpWith Config.chip s

/-- `RECOV` (R185). -/
def execRecov (s : State) : Result :=
  if s.n = 0 then fail .emptySampleSet s
  else ok ((selectCandidate s.cnt s.n).setWidth 32) (s.setResult (selectCandidate s.cnt s.n))

/-- `RDCNT imm8` (R186). -/
def execRdcnt (imm8 : Byte) (s : State) : Result := ok (s.cnt.get imm8.toFin) s

/-- `RDN` (R187). -/
def execRdn (s : State) : Result := ok s.n s

/-- `RDCAND` (R188). -/
def execRdcand (s : State) : Result :=
  if s.resv then ok (s.cand.setWidth 32) s else fail .notReady s

/-- `RDDEV imm8` (R189). -/
def execRddev (imm8 : Byte) (s : State) : Result :=
  if s.n = 0 then fail .emptySampleSet s
  else ok (BitVec.ofNat 32 (dev2 (s.cnt.get imm8.toFin) s.n)) s

/-- `RDAPX` (R190). -/
def execRdapx (s : State) : Result := ok s.apx s

end Sys2Proof.Machine
end

