-- ==== Sys2Proof/Machine/Dispatch.lean ====
section
/-! DEFINITION. The meaning of every command: one arm per constructor of `Instr`, each one direct call. -/
namespace Sys2Proof.Machine

def exec (i : Instr) (s : State) : Host.Outcome State Fault Refusal :=
  match i with
  | .lda imm24 => Sys2Proof.Machine.execLda imm24 s
  | .ldp imm24 => Sys2Proof.Machine.execLdp imm24 s
  | .mvp => Sys2Proof.Machine.execMvp s
  | .kset r imm20 => Sys2Proof.Machine.execKset r imm20 s
  | .kclr => Sys2Proof.Machine.execKclr s
  | .seedb imm8 => Sys2Proof.Machine.execSeedb imm8 s
  | .seedc => Sys2Proof.Machine.execSeedc s
  | .kgen => Sys2Proof.Machine.execKgen s
  | .xork r => Sys2Proof.Machine.execXork r s
  | .subf => Sys2Proof.Machine.execSubf s
  | .subi => Sys2Proof.Machine.execSubi s
  | .perm => Sys2Proof.Machine.execPerm s
  | .enc => Sys2Proof.Machine.execEnc s
  | .dec => Sys2Proof.Machine.execDec s
  | .latb => Sys2Proof.Machine.execLatb s
  | .apxp imm16 => Sys2Proof.Machine.execApxp imm16 s
  | .apxu thi tlo umask => Sys2Proof.Machine.execApxu thi tlo umask s
  | .rinit => Sys2Proof.Machine.execRinit s
  | .smp => Sys2Proof.Machine.execSmp s
  | .recov => Sys2Proof.Machine.execRecov s
  | .rda => Sys2Proof.Machine.execRda s
  | .rdp => Sys2Proof.Machine.execRdp s
  | .rdk r => Sys2Proof.Machine.execRdk r s
  | .rdst => Sys2Proof.Machine.execRdst s
  | .rdsf x => Sys2Proof.Machine.execRdsf x s
  | .rdsi x => Sys2Proof.Machine.execRdsi x s
  | .rdpb x => Sys2Proof.Machine.execRdpb x s
  | .rdlat a b => Sys2Proof.Machine.execRdlat a b s
  | .rdcnt imm8 => Sys2Proof.Machine.execRdcnt imm8 s
  | .rdn => Sys2Proof.Machine.execRdn s
  | .rdcand => Sys2Proof.Machine.execRdcand s
  | .rddev imm8 => Sys2Proof.Machine.execRddev imm8 s
  | .rdapx => Sys2Proof.Machine.execRdapx s

end Sys2Proof.Machine
end

