-- ==== Sys2Proof/Machine/Step.lean ====
section
/-! DEFINITION. One step of the core: the next event of the host is taken and handled to completion
(70_reset_and_hazards.md R260, R265). -/
namespace Sys2Proof.Machine

/-- The command word that an instruction's table bits make up is the next event the host presents. The core stores
no program (10_state.md R40), so this stands for the host issuing the command (log entry 1). -/
def State.withFetchWord (s : State) (nbits w : Nat) : State := s.present (.command (tableWord nbits w))

/-- One step. Nothing presented: the core holds its state (60_exceptions.md R249, log entry 2). A reset, also one
that interrupts a command: the reset state. A command word: its command, or a failure if the word is illegal. -/
def step (s : State) : Host.Outcome State Fault Refusal :=
  match s.nextEvent with
  | none => .next s
  | some (.reset, s') => .next s'.takeReset
  | some (.resetDuring _, s') => .next s'.takeReset
  | some (.command w, s') =>
    match decode w with
    | .command i => exec i s'
    | .illegal _ => rejectWord s'

end Sys2Proof.Machine
end

