-- ==== Sys2Proof/Machine/Pseudo.lean ====
section
/-! DEFINITION. The host's notation: pseudo-instructions as lists of commands (30_encoding.md R98) and the assembler
text of a command (R97). The core sees neither; a pseudo-instruction is not atomic. -/
namespace Sys2Proof.Machine

/-- The pseudo-instructions of R98. -/
inductive Pseudo where
  /-- `KLOAD k1, k2, k3, k4, k5`: a `KeyMaterial` value. -/
  | kload (k1 k2 k3 k4 k5 : BitVec 20)
  /-- `ENCRYPT x`. -/
  | encrypt (x : BitVec 24)
  /-- `DECRYPT x`. -/
  | decrypt (x : BitVec 24)
  /-- `SAMPLE p, c`: one pair of an external corpus. -/
  | sample (p c : BitVec 24)
  /-- `GENSAMPLE p`: one honestly generated pair. -/
  | gensample (p : BitVec 24)
  /-- `SEED b0, b1, ..., bn`. -/
  | seed (bytes : List Byte)
  /-- `APPROX pmask, thi, tlo, umask`. -/
  | approx (pmask : BitVec 16) (thi tlo : BitVec 2) (umask : Byte)
deriving DecidableEq, Repr

/-- The fixed expansion of a pseudo-instruction (R98). -/
def expansion : Pseudo → List Instr
  | .kload k1 k2 k3 k4 k5 => [.kset 1 k1, .kset 2 k2, .kset 3 k3, .kset 4 k4, .kset 5 k5]
  | .encrypt x => [.lda x, .enc]
  | .decrypt x => [.lda x, .dec]
  | .sample p c => [.ldp p, .lda c, .smp]
  | .gensample p => [.lda p, .mvp, .enc, .smp]
  | .seed bytes => bytes.map .seedb
  | .approx pmask thi tlo umask => [.apxp pmask, .apxu thi tlo umask]

/-- A mnemonic and its operands, in the order of the format's fields from high bits to low, separated by commas (R97).
Numbers are written in decimal, which R97 allows beside hexadecimal (log entry 15). -/
def line (mnemonic : String) (operands : List Nat) : String :=
  match operands with
  | [] => mnemonic
  | n :: rest => rest.foldl (fun text m => text ++ ", " ++ toString m) (mnemonic ++ " " ++ toString n)

/-- The assembler text of a command (R97). -/
def assembly : Instr → String
  | .lda imm24 => line "LDA" [imm24.toNat]
  | .ldp imm24 => line "LDP" [imm24.toNat]
  | .mvp => line "MVP" []
  | .kset r imm20 => line "KSET" [r.toNat, imm20.toNat]
  | .kclr => line "KCLR" []
  | .seedb imm8 => line "SEEDB" [imm8.toNat]
  | .seedc => line "SEEDC" []
  | .kgen => line "KGEN" []
  | .xork r => line "XORK" [r.toNat]
  | .subf => line "SUBF" []
  | .subi => line "SUBI" []
  | .perm => line "PERM" []
  | .enc => line "ENC" []
  | .dec => line "DEC" []
  | .latb => line "LATB" []
  | .apxp imm16 => line "APXP" [imm16.toNat]
  | .apxu thi tlo umask => line "APXU" [thi.toNat, tlo.toNat, umask.toNat]
  | .rinit => line "RINIT" []
  | .smp => line "SMP" []
  | .recov => line "RECOV" []
  | .rda => line "RDA" []
  | .rdp => line "RDP" []
  | .rdk r => line "RDK" [r.toNat]
  | .rdst => line "RDST" []
  | .rdsf x => line "RDSF" [x.toNat]
  | .rdsi x => line "RDSI" [x.toNat]
  | .rdpb x => line "RDPB" [x.toNat]
  | .rdlat a b => line "RDLAT" [a.toNat, b.toNat]
  | .rdcnt imm8 => line "RDCNT" [imm8.toNat]
  | .rdn => line "RDN" []
  | .rdcand => line "RDCAND" []
  | .rddev imm8 => line "RDDEV" [imm8.toNat]
  | .rdapx => line "RDAPX" []

end Sys2Proof.Machine
end

