-- ==== Sys2Proof/Safety.lean ====
section
/-! DEFINITION. Runs of the core (70_reset_and_hazards.md R267), what a fault-free run is (60_exceptions.md R243), and
the invariant of reachable states that 10_state.md states element by element. -/
namespace Sys2Proof.Machine

/-- The state one step leaves. (A step of this machine always leaves one.) -/
def after (s : State) : State :=
  match step s with
  | .next t => t
  | .fault _ => s
  | .refused _ => s

/-- A run: the events are presented one after the other, each handled to completion before the next (R265, R267).
The responses are what `output` gains. -/
def run : List Event → State → State
  | [], s => s
  | e :: rest, s => run rest (after (s.present e))

/-- The host issues these command words (R267). -/
def words (ws : List Word) : List Event := ws.map Event.command

/-- The host issues these commands. -/
def program (is : List Instr) : List Event := words (is.map encode)

/-- No failure is recorded (60_exceptions.md R243). -/
abbrev FaultFree (s : State) : Prop := s.err = 0

/-- The invariant of reachable states. -/
structure State.Inv (s : State) : Prop where
  /-- `SEEDLEN` is one of 0..64 (R25). -/
  seedLen_le : s.seedLen.toNat ≤ 64
  /-- A built LAT is the table of `SBOX` (R27). -/
  lat_built : s.latv = true → s.lat = latTable Config.chip.sbox
  /-- `CNT[c] <= N` (R28). -/
  cnt_le : ∀ c : Byte, (s.cnt.get c.toFin).toNat ≤ s.n.toNat
  /-- `THI != TLO` (R32). -/
  units_ne : s.thi ≠ s.tlo
  /-- `RESV = 0` implies `CAND = 0x00` (R33). -/
  no_result : s.resv = false → s.cand = 0x00
  /-- `RESV = 1` only when `CAND` is the selection over the current `CNT` and `N` (R34). -/
  result : s.resv = true → s.n ≠ 0 ∧ s.cand = selectCandidate s.cnt s.n
  /-- `ERR` is 0 or one of the seven failure codes (R35). -/
  err_le : s.err.toNat ≤ 7

end Sys2Proof.Machine
end

