-- ==== Sys2Proof/Certificates/Slice0/Obligations.lean ====
section
/-! DEFINITION. The statements for the provers. Each says in its docstring which rule of the spec it formalises. The
words of the statements (what a success and a failure leave, what a word of a format does) are defined first, in the
spec's terms and without the model's operations. -/

/-! ## The words of the statements -/

namespace Sys2Proof.Claims
open Sys2Proof.Machine

/-- The state `t` with one more response. A command that ends with `ok(data)` answers `.next (answers 0 data t)`, where
`t` is the state its writes leave (00_scope.md R8). -/
def answers (code : BitVec 4) (data : Word) (t : State) : State :=
  { t with output := t.output ++ [⟨code, data⟩] }

/-- A command issued in `s` fails with this code: `ERR` keeps the first code, the response is `(code, 0)`, nothing
else changes (60_exceptions.md R230, R240). -/
def failsWith (code : BitVec 4) (s : State) : Result :=
  .next (answers code 0 { s with err := if s.err = 0 then code else s.err })

/-- The host presents the word `w` in `s`: the step that handles it. -/
def onWord (w : Word) (s : State) : Result := step { s with input := .command w :: s.input }

/-- The words of a format Z command (30_encoding.md R81). -/
def formatZ (op : BitVec 8) (i : Instr) : Prop :=
  ∀ (o : BitVec 24) (s : State), onWord (op ++ o) s = if o = 0 then exec i s else failsWith 5 s

/-- The words of a format I command (R82). -/
def formatI (op : BitVec 8) (i : BitVec 24 → Instr) : Prop :=
  ∀ (imm24 : BitVec 24) (s : State), onWord (op ++ imm24) s = exec (i imm24) s

/-- The words of a format H command (R83). -/
def formatH (op : BitVec 8) (i : BitVec 16 → Instr) : Prop :=
  ∀ (z : BitVec 8) (imm16 : BitVec 16) (s : State),
    onWord (op ++ (z ++ imm16 : BitVec 24)) s = if z = 0 then exec (i imm16) s else failsWith 5 s

/-- The words of a format K command (R84). -/
def formatK (op : BitVec 8) (i : BitVec 4 → BitVec 20 → Instr) : Prop :=
  ∀ (r : BitVec 4) (imm20 : BitVec 20) (s : State),
    onWord (op ++ (r ++ imm20 : BitVec 24)) s =
      if 1 ≤ r.toNat ∧ r.toNat ≤ 5 then exec (i r imm20) s else failsWith 5 s

/-- The words of a format R command (R85). -/
def formatR (op : BitVec 8) (i : BitVec 4 → Instr) : Prop :=
  ∀ (r : BitVec 4) (z : BitVec 20) (s : State),
    onWord (op ++ (r ++ z : BitVec 24)) s =
      if z = 0 ∧ 1 ≤ r.toNat ∧ r.toNat ≤ 5 then exec (i r) s else failsWith 5 s

/-- The words of a format B command (R86). -/
def formatB (op : BitVec 8) (i : Byte → Instr) : Prop :=
  ∀ (z : BitVec 16) (imm8 : Byte) (s : State),
    onWord (op ++ (z ++ imm8 : BitVec 24)) s = if z = 0 then exec (i imm8) s else failsWith 5 s

/-- The words of a format X command (R87). -/
def formatX (op : BitVec 8) (i : Nibble → Instr) : Prop :=
  ∀ (z : BitVec 20) (x : Nibble) (s : State),
    onWord (op ++ (z ++ x : BitVec 24)) s = if z = 0 then exec (i x) s else failsWith 5 s

/-- The words of a format L command (R88). -/
def formatL (op : BitVec 8) (i : Nibble → Nibble → Instr) : Prop :=
  ∀ (z : BitVec 16) (a b : Nibble) (s : State),
    onWord (op ++ (z ++ a ++ b : BitVec 24)) s = if z = 0 then exec (i a b) s else failsWith 5 s

/-- The words of a format U command (R89). -/
def formatU (op : BitVec 8) (i : BitVec 2 → BitVec 2 → Byte → Instr) : Prop :=
  ∀ (z : BitVec 12) (thi tlo : BitVec 2) (umask : Byte) (s : State),
    onWord (op ++ (z ++ thi ++ tlo ++ umask : BitVec 24)) s =
      if z = 0 ∧ thi ≠ tlo then exec (i thi tlo umask) s else failsWith 5 s

/-- The rows of opcode_table.json: `match` and `mask`. -/
def rows : List (Word × Word) :=
  [(0x01000000#32, 0xFF000000#32), (0x02000000#32, 0xFF000000#32), (0x03000000#32, 0xFFFFFFFF#32),
   (0x10000000#32, 0xFF000000#32), (0x11000000#32, 0xFFFFFFFF#32), (0x12000000#32, 0xFFFFFF00#32),
   (0x13000000#32, 0xFFFFFFFF#32), (0x14000000#32, 0xFFFFFFFF#32), (0x20000000#32, 0xFF0FFFFF#32),
   (0x21000000#32, 0xFFFFFFFF#32), (0x22000000#32, 0xFFFFFFFF#32), (0x23000000#32, 0xFFFFFFFF#32),
   (0x24000000#32, 0xFFFFFFFF#32), (0x25000000#32, 0xFFFFFFFF#32), (0x30000000#32, 0xFFFFFFFF#32),
   (0x40000000#32, 0xFFFF0000#32), (0x41000000#32, 0xFFFFF000#32), (0x42000000#32, 0xFFFFFFFF#32),
   (0x43000000#32, 0xFFFFFFFF#32), (0x44000000#32, 0xFFFFFFFF#32), (0x80000000#32, 0xFFFFFFFF#32),
   (0x81000000#32, 0xFFFFFFFF#32), (0x82000000#32, 0xFF0FFFFF#32), (0x83000000#32, 0xFFFFFFFF#32),
   (0x84000000#32, 0xFFFFFFF0#32), (0x85000000#32, 0xFFFFFFF0#32), (0x86000000#32, 0xFFFFFFF0#32),
   (0x87000000#32, 0xFFFFFF00#32), (0x88000000#32, 0xFFFFFF00#32), (0x89000000#32, 0xFFFFFFFF#32),
   (0x8A000000#32, 0xFFFFFFFF#32), (0x8B000000#32, 0xFFFFFF00#32), (0x8C000000#32, 0xFFFFFFFF#32)]

/-- The conditions of the table that a mask cannot express (30_encoding.md R92 (c), (d)), for the row of this
`match`. -/
def constraint (m w : Word) : Prop :=
  (m ∈ [0x10000000#32, 0x20000000#32, 0x82000000#32] →
    1 ≤ (w.extractLsb' 20 4).toNat ∧ (w.extractLsb' 20 4).toNat ≤ 5) ∧
  (m = 0x41000000#32 → w.extractLsb' 10 2 ≠ w.extractLsb' 8 2)

/-- The code a command with legal fields answers in `s`: the causes of 60_exceptions.md R232 to R235, R237, R238,
kind by kind, and 0 where none holds. -/
def codeOf (i : Instr) (s : State) : BitVec 4 :=
  match i with
  | .lda imm24 | .ldp imm24 => if imm24.toNat > 0xFFFF then 1 else 0
  | .kset _ imm20 => if imm20.toNat > 0xFFFF then 2 else 0
  | .xork r | .rdk r => if ∃ i : Fin 5, r.toNat = i.val + 1 ∧ s.kv.get i = false then 2 else 0
  | .enc | .dec => if ∃ i : Fin 5, s.kv.get i = false then 2 else 0
  | .kgen => if s.seedLen.toNat < 16 then 3 else 0
  | .recov | .rddev _ => if s.n = 0 then 4 else 0
  | .rdlat _ _ => if s.latv = false then 6 else 0
  | .rdcand => if s.resv = false then 6 else 0
  | .seedb _ => if s.seedLen.toNat = 64 then 7 else 0
  | .smp => if s.n.toNat = 2 ^ 32 - 1 then 7 else 0
  | .mvp | .kclr | .seedc | .subf | .subi | .perm | .latb | .apxp _ | .apxu _ _ _ | .rinit | .rda | .rdp | .rdst
  | .rdsf _ | .rdsi _ | .rdpb _ | .rdcnt _ | .rdn | .rdapx => 0

/-- The first nonzero code of a list of responses, or 0. -/
def firstFailure : List Response → BitVec 4
  | [] => 0
  | r :: rest => if r.code = 0 then firstFailure rest else r.code

/-- Two states that differ at most in what no command can observe (70_reset_and_hazards.md R261): `K[r]` while
`KV[r] = 0` (10_state.md R23), seed bytes from `SEEDLEN` on (R25), the LAT while `LATV = 0` (R26). -/
def SameButUnobservable (s u : State) : Prop :=
  u = { s with k := u.k, seed := u.seed, lat := u.lat } ∧
  (∀ i : Fin 5, s.kv.get i = true → u.k.get i = s.k.get i) ∧
  (∀ j : Fin 64, j.val < s.seedLen.toNat → u.seed.get j = s.seed.get j) ∧
  (s.latv = true → u.lat = s.lat)

/-- The number of 1 bits of a block. -/
def ones (v : Block) : Nat := (Finset.univ.filter fun i : Fin 16 => v.getLsbD i = true).card

/-- `lat(a, b)` by the counting definition: how many of the 16 inputs make the two parities equal (45_lat.md R161). -/
def lat (sb : SBox) (a b : Nibble) : Nat :=
  (Finset.univ.filter fun v : Fin 16 =>
    parity (a &&& BitVec.ofFin v) = parity (b &&& sb.forward.get v)).card

/-- The commands that present a list of samples (plaintext, ciphertext): `SAMPLE p, c` for each (30_encoding.md R98). -/
def samples (l : List (Block × Block)) : List Event :=
  program (l.flatMap fun pc => [.ldp (pc.1.setWidth 24), .lda (pc.2.setWidth 24), .smp])

end Sys2Proof.Claims

open Sys2Proof Sys2Proof.Machine Sys2Proof.Claims

/-! ## Encoding -/

/-- Every command with legal operand fields is decoded from the word that encodes it: no operand bit is dropped
(30_encoding.md, sections 1 to 5). -/
def Obligations.DecodeEncodeRoundTrip : Prop :=
  ∀ i : Instr, WellFormed i → decode (encode i) = .command i

/-- A word that decodes to a command has legal fields and is the one word of that command (30_encoding.md, sections
1 to 5). -/
def Obligations.EncodeDecodeRoundTrip : Prop :=
  ∀ (w : Word) (i : Instr), decode w = .command i → WellFormed i ∧ encode i = w

/-- Each of the 33 opcodes of R90 reaches its command through its format (R81 to R89); every other word of that
opcode, and every word of any other opcode, fails with `IllegalCommand` and changes only `ERR` (R92, 60_exceptions.md
R236). -/
def Obligations.EveryFormatReachesItsCommands : Prop :=
  formatI 0x01 .lda ∧ formatI 0x02 .ldp ∧ formatZ 0x03 .mvp ∧
  formatK 0x10 .kset ∧ formatZ 0x11 .kclr ∧ formatB 0x12 .seedb ∧ formatZ 0x13 .seedc ∧ formatZ 0x14 .kgen ∧
  formatR 0x20 .xork ∧ formatZ 0x21 .subf ∧ formatZ 0x22 .subi ∧ formatZ 0x23 .perm ∧ formatZ 0x24 .enc ∧
  formatZ 0x25 .dec ∧ formatZ 0x30 .latb ∧
  formatH 0x40 .apxp ∧ formatU 0x41 .apxu ∧ formatZ 0x42 .rinit ∧ formatZ 0x43 .smp ∧ formatZ 0x44 .recov ∧
  formatZ 0x80 .rda ∧ formatZ 0x81 .rdp ∧ formatR 0x82 .rdk ∧ formatZ 0x83 .rdst ∧
  formatX 0x84 .rdsf ∧ formatX 0x85 .rdsi ∧ formatX 0x86 .rdpb ∧ formatL 0x87 .rdlat ∧
  formatB 0x88 .rdcnt ∧ formatZ 0x89 .rdn ∧ formatZ 0x8A .rdcand ∧ formatB 0x8B .rddev ∧ formatZ 0x8C .rdapx ∧
  ∀ (op : BitVec 8) (o : BitVec 24) (s : State),
    op ∉ [0x01#8, 0x02#8, 0x03#8, 0x10#8, 0x11#8, 0x12#8, 0x13#8, 0x14#8, 0x20#8, 0x21#8, 0x22#8, 0x23#8, 0x24#8,
      0x25#8, 0x30#8, 0x40#8, 0x41#8, 0x42#8, 0x43#8, 0x44#8, 0x80#8, 0x81#8, 0x82#8, 0x83#8, 0x84#8, 0x85#8, 0x86#8,
      0x87#8, 0x88#8, 0x89#8, 0x8A#8, 0x8B#8, 0x8C#8] →
    onWord (op ++ o) s = failsWith 5 s

/-- The decoder agrees with opcode_table.json: a word is a command exactly when it selects a row (`w & mask = match`)
and meets the row's constraints, and no word selects two rows (95_test_vectors.md, V-EN-5). -/
def Obligations.WordsSelectTheirTableRow : Prop :=
  (∀ w : Word, (∃ i, decode w = .command i) ↔ ∃ row ∈ rows, w &&& row.2 = row.1 ∧ constraint row.1 w) ∧
  (∀ w : Word, ∀ row ∈ rows, ∀ row' ∈ rows, w &&& row.2 = row.1 → w &&& row'.2 = row'.1 → row = row')

/-- Words written out in the spec's examples decode to the commands they stand for (47_data_and_read.md,
43_key_schedule.md, 44_cipher.md, 45_lat.md, 46_recovery.md, the examples). -/
def Obligations.WrittenOutWordsDecode : Prop :=
  decode 0x01001234 = .command (.lda 0x1234) ∧ decode 0x10509234 = .command (.kset 5 0x9234) ∧
  decode 0x120000AA = .command (.seedb 0xAA) ∧ decode 0x20100000 = .command (.xork 1) ∧
  decode 0x21000000 = .command .subf ∧ decode 0x40000B00 = .command (.apxp 0x0B00) ∧
  decode 0x41000855 = .command (.apxu 2 0 0x55) ∧ decode 0x84000003 = .command (.rdsf 3) ∧
  decode 0x870000B4 = .command (.rdlat 11 4) ∧ decode 0x8B000024 = .command (.rddev 0x24) ∧
  decode 0x10610000 = .illegal .subkeyNumber ∧ decode 0x41000500 = .illegal .equalUnits ∧
  decode 0x21000001 = .illegal .reservedBits ∧ decode 0x00000000 = .illegal .unknownOpcode

/-! ## The step -/

/-- When the next event is a word that decodes to a command, the step is that command, executed in the state with the
word taken off the port; the host reaches it by presenting the word's bits. The model's form of 00_scope.md R6
(log entry 1). -/
def Obligations.StepRunsDecodedInstruction : Prop :=
  (∀ (s : State) (w : Word) (rest : List Event) (i : Instr), s.input = .command w :: rest →
    decode w = .command i → step s = exec i { s with input := rest }) ∧
  (∀ (s : State) (i : Instr), WellFormed i → step (s.withFetchWord 32 (encode i).toNat) = exec i s)

/-- With nothing presented the core holds its state; a reset event, also one that arrives during a command, gives
the reset state and no response (60_exceptions.md, R249 in section 5; 70_reset_and_hazards.md, section 1; log entries
2, 8 and 14). -/
def Obligations.StepWithoutCommand : Prop :=
  (∀ s : State, s.input = [] → step s = .next s) ∧
  (∀ (s : State) (rest : List Event) (e : Event), s.input = e :: rest →
    (e = .reset ∨ ∃ w, e = .resetDuring w) →
    step s = .next { State.reset with input := rest, output := s.output })

/-- The reset state has the values of 70_reset_and_hazards.md R261 in every element it specifies, and the two views
read 0x00000000 and 0x00000400. -/
def Obligations.ResetStateValues : Prop :=
  let s := State.reset
  s.a = 0x0000 ∧ s.p = 0x0000 ∧ (∀ i, s.k.get i = 0x0000 ∧ s.kv.get i = false) ∧ s.seedLen = 0 ∧ s.latv = false ∧
  (∀ c, s.cnt.get c = 0) ∧ s.n = 0 ∧ s.pmask = 0x0000 ∧ s.umask = 0x00 ∧ s.thi = 1 ∧ s.tlo = 0 ∧ s.cand = 0x00 ∧
  s.resv = false ∧ s.err = 0 ∧
  exec .rdst s = .next (answers 0 0x00000000 s) ∧ exec .rdapx s = .next (answers 0 0x00000400 s)

/-- Every command word, legal or not, is answered by exactly one response. A failing one (nonzero code) answers data
0 and changes nothing but `ERR`, which takes the code if it was 0; a succeeding one leaves `ERR` (60_exceptions.md
R230, R240). -/
def Obligations.EveryCommandAnswersOnce : Prop :=
  ∀ (s : State) (w : Word) (rest : List Event), s.input = .command w :: rest →
    ∃ (t : State) (r : Response), step s = .next t ∧ t.input = rest ∧ t.output = s.output ++ [r] ∧
      r.code.toNat ≤ 7 ∧
      (r.code ≠ 0 → r.data = 0 ∧
        t = { s with input := rest, output := t.output, err := if s.err = 0 then r.code else s.err }) ∧
      (r.code = 0 → t.err = s.err)

/-- Each failure kind is raised exactly for its cause (60_exceptions.md R232 to R238): the code of the response of a
command with legal fields is `codeOf`, and a word that is no command answers 5. -/
def Obligations.FailureCausesExactly : Prop :=
  (∀ (i : Instr) (s : State), WellFormed i →
    ∃ (t : State) (data : Word), exec i s = .next t ∧ t.output = s.output ++ [⟨codeOf i s, data⟩]) ∧
  (∀ (w : Word) (s : State), (∀ i, decode w ≠ .command i) → onWord w s = failsWith 5 s)

/-- A run of commands from a state with `ERR = 0` ends with `ERR` the first nonzero code of its responses; so it ends
with `ERR = 0` exactly when every response code was 0 (60_exceptions.md R243). With `ERR` nonzero it stays as it is
(10_state.md R35). -/
def Obligations.ErrRecordsFirstFailure : Prop :=
  ∀ (ws : List Word) (s : State), ∃ rs : List Response,
    (run (words ws) s).output = s.output ++ rs ∧ rs.length = ws.length ∧
    (s.err = 0 → (run (words ws) s).err = firstFailure rs ∧
      ((run (words ws) s).err = 0 ↔ ∀ r ∈ rs, r.code = 0)) ∧
    (s.err ≠ 0 → (run (words ws) s).err = s.err)

/-- `ERR` changes the behaviour of no command (10_state.md R35 in section 7): a command issued with another `ERR`
leaves the same state but for `ERR`, with the same response, except that `RDST` shows `ERR`. -/
def Obligations.ErrChangesNoBehaviour : Prop :=
  ∀ (i : Instr) (s : State) (e : BitVec 4), ∃ t u : State,
    exec i s = .next t ∧ exec i { s with err := e } = .next u ∧
    u = { t with err := u.err, output := u.output } ∧ (i ≠ .rdst → u.output = t.output)

/-! ## The whole machine -/

/-- The invariant of reachable states holds at reset (10_state.md, the invariants of sections 4 to 7). -/
def Obligations.ResetStateMeetsInvariant : Prop := State.reset.Inv

/-- Every step keeps the invariant of reachable states: `SEEDLEN` is at most 64, a built LAT is the table of `SBOX`,
`CNT[c] <= N`, `THI != TLO`, `RESV = 0` implies `CAND = 0`, `RESV = 1` only when `CAND` is the selection over the
current counters, `ERR` is a legal code (10_state.md, sections 4 to 7). -/
def Obligations.EveryStepKeepsInvariant : Prop :=
  ∀ s t : State, s.Inv → step s = .next t → t.Inv

/-- What 10_state.md R23, R25 and R26 call unobservable is so: two states that differ only there take steps to two
states that differ only there, with the same responses (10_state.md, sections 4 and 5; 70_reset_and_hazards.md,
section 1). -/
def Obligations.UnspecifiedContentsUnobservable : Prop :=
  ∀ s u : State, SameButUnobservable s u →
    ∃ t v : State, step s = .next t ∧ step u = .next v ∧ SameButUnobservable t v

/-- No command writes an element but those the element's rule names, by opcode (10_state.md, sections 2 to 7;
20_memory.md, section 1), and no command touches what the host has yet to present. -/
def Obligations.WritersOfEachElement : Prop :=
  ∀ (i : Instr) (s t : State), exec i s = .next t →
    (t.a = s.a ∨ opcode i ∈ [0x01#8, 0x20#8, 0x21#8, 0x22#8, 0x23#8, 0x24#8, 0x25#8]) ∧
    (t.p = s.p ∨ opcode i ∈ [0x02#8, 0x03#8]) ∧
    ((t.k = s.k ∧ t.kv = s.kv) ∨ opcode i ∈ [0x10#8, 0x11#8, 0x14#8]) ∧
    (t.seed = s.seed ∨ opcode i ∈ [0x12#8]) ∧
    (t.seedLen = s.seedLen ∨ opcode i ∈ [0x12#8, 0x13#8, 0x14#8]) ∧
    ((t.lat = s.lat ∧ t.latv = s.latv) ∨ opcode i ∈ [0x30#8]) ∧
    ((t.cnt = s.cnt ∧ t.n = s.n) ∨ opcode i ∈ [0x42#8, 0x43#8]) ∧
    (t.pmask = s.pmask ∨ opcode i ∈ [0x40#8]) ∧
    ((t.umask = s.umask ∧ t.thi = s.thi ∧ t.tlo = s.tlo) ∨ opcode i ∈ [0x41#8]) ∧
    ((t.cand = s.cand ∧ t.resv = s.resv) ∨ opcode i ∈ [0x42#8, 0x43#8, 0x44#8]) ∧
    t.input = s.input

/-- A read (opcode 0x80 or above) changes no element when it succeeds and only `ERR` when it fails, and repeated it
gives the same response (20_memory.md, section 3). -/
def Obligations.ReadsChangeNothing : Prop :=
  ∀ (i : Instr) (s : State), 0x80 ≤ (opcode i).toNat →
    ∃ (t : State) (r : Response), exec i s = .next t ∧
      t = { s with err := t.err, output := s.output ++ [r] } ∧ (r.code = 0 → t.err = s.err) ∧
      ∃ v : State, exec i t = .next v ∧ v.output = t.output ++ [r]

/-- A successful command that writes `A` returns the new `A`, which `RDA` then returns again; every other command
leaves `A`, so `RDA` returns what the last successful command that wrote `A` returned (47_data_and_read.md R203,
30_encoding.md, section 6). -/
def Obligations.CommandsThatWriteAReturnIt : Prop :=
  formatZ 0x80 .rda ∧
  (∀ s : State, exec .rda s = .next (answers 0 (s.a.setWidth 32) s)) ∧
  exec .rda State.reset = .next (answers 0 0 State.reset) ∧
  (∀ (i : Instr) (s t : State) (data : Word),
    opcode i ∈ [0x01#8, 0x20#8, 0x21#8, 0x22#8, 0x23#8, 0x24#8, 0x25#8] →
    exec i s = .next t → t.output = s.output ++ [⟨0, data⟩] →
    data = t.a.setWidth 32 ∧ exec .rda t = .next (answers 0 data t)) ∧
  (∀ (i : Instr) (s t : State), exec i s = .next t →
    opcode i ∉ [0x01#8, 0x20#8, 0x21#8, 0x22#8, 0x23#8, 0x24#8, 0x25#8] → t.a = s.a)

/-! ## Views -/

/-- `RDST` returns the view `STATUS`, field by field, and clears nothing (47_data_and_read.md R205, 10_state.md
R36). -/
def Obligations.RdstReturnsStatus : Prop :=
  formatZ 0x83 .rdst ∧
  (∀ s : State, ∃ d : Word, exec .rdst s = .next (answers 0 d s) ∧
    (∀ i : Fin 5, d.getLsbD i = s.kv.get i) ∧ d.getLsbD 5 = s.latv ∧ d.getLsbD 6 = s.resv ∧ d.getLsbD 7 = false ∧
    d.extractLsb' 8 4 = s.err ∧ d.extractLsb' 12 4 = 0 ∧ d.extractLsb' 16 7 = s.seedLen ∧ d.extractLsb' 23 9 = 0) ∧
  exec .rdst State.reset = .next (answers 0 0x00000000 State.reset)

/-- `RDAPX` returns the view `APX`, field by field (46_recovery.md R190, 10_state.md R37). -/
def Obligations.RdapxReturnsApproximation : Prop :=
  formatZ 0x8C .rdapx ∧
  (∀ s : State, ∃ d : Word, exec .rdapx s = .next (answers 0 d s) ∧
    d.extractLsb' 16 16 = s.pmask ∧ d.extractLsb' 12 4 = 0 ∧ d.extractLsb' 10 2 = s.thi ∧
    d.extractLsb' 8 2 = s.tlo ∧ d.extractLsb' 0 8 = s.umask) ∧
  exec .rdapx State.reset = .next (answers 0 0x00000400 State.reset)

/-! ## Operand moves -/

/-- `LDA imm24` loads `A` and returns it; a value beyond 16 bits fails `InvalidBlockSize` and is not masked
(47_data_and_read.md R200). -/
def Obligations.LdaLoadsBlock : Prop :=
  formatI 0x01 .lda ∧
  (∀ (s : State) (imm24 : BitVec 24), imm24.toNat ≤ 0xFFFF →
    exec (.lda imm24) s = .next (answers 0 (imm24.setWidth 32) { s with a := imm24.setWidth 16 })) ∧
  (∀ (s : State) (imm24 : BitVec 24), 0xFFFF < imm24.toNat → exec (.lda imm24) s = failsWith 1 s)

/-- `LDP imm24` loads `P` and returns 0; a value beyond 16 bits fails `InvalidBlockSize` (47_data_and_read.md
R201). -/
def Obligations.LdpLoadsPlaintext : Prop :=
  formatI 0x02 .ldp ∧
  (∀ (s : State) (imm24 : BitVec 24), imm24.toNat ≤ 0xFFFF →
    exec (.ldp imm24) s = .next (answers 0 0 { s with p := imm24.setWidth 16 })) ∧
  (∀ (s : State) (imm24 : BitVec 24), 0xFFFF < imm24.toNat → exec (.ldp imm24) s = failsWith 1 s)

/-- `MVP` copies `A` to `P`, and `RDP` returns `P`, after reset 0 (47_data_and_read.md R202, R204); `RDA` returns
`A`. -/
def Obligations.MvpRdaRdpCommands : Prop :=
  formatZ 0x03 .mvp ∧ formatZ 0x80 .rda ∧ formatZ 0x81 .rdp ∧
  (∀ s : State, exec .mvp s = .next (answers 0 0 { s with p := s.a })) ∧
  (∀ s : State, exec .rda s = .next (answers 0 (s.a.setWidth 32) s)) ∧
  (∀ s : State, exec .rdp s = .next (answers 0 (s.p.setWidth 32) s)) ∧
  (∀ s : State, ∃ t : State, exec .mvp s = .next t ∧ exec .rdp t = .next (answers 0 (s.a.setWidth 32) t)) ∧
  exec .rdp State.reset = .next (answers 0 0 State.reset)

/-! ## Substitution -/

/-- A block decomposes into four nibbles and recomposes losslessly (10_state.md R43). -/
def Obligations.NibbleComposition : Prop :=
  (∀ s : Block, (nib s 3 ++ nib s 2 ++ nib s 1 ++ nib s 0 : BitVec 16) = s) ∧
  (∀ n3 n2 n1 n0 : Nibble, nib (n3 ++ n2 ++ n1 ++ n0 : BitVec 16) 3 = n3 ∧ nib (n3 ++ n2 ++ n1 ++ n0 : BitVec 16) 2 = n2 ∧
    nib (n3 ++ n2 ++ n1 ++ n0 : BitVec 16) 1 = n1 ∧ nib (n3 ++ n2 ++ n1 ++ n0 : BitVec 16) 0 = n0)

/-- Nibble `j` of `apply_to_state(s, T)` is the entry of `T` at nibble `j` of `s`, whatever the other nibbles are
(41_substitution.md R111). -/
def Obligations.ApplyToStateActsPerNibble : Prop :=
  ∀ (T : Table) (s : Block) (j : BitVec 2), nib (applyToState s T) j = T.get (nib s j).toFin

/-- `S` and `Sinv` undo each other on every block, so both are bijections (41_substitution.md R112), in every
configuration. -/
def Obligations.SubstitutionLaws : Prop :=
  ∀ sb : SBox, (∀ s : Block, subInv sb (sub sb s) = s ∧ sub sb (subInv sb s) = s) ∧
    Function.Bijective (sub sb) ∧ Function.Bijective (subInv sb)

/-- `SUBF` and `SUBI` replace every nibble of `A` by its entry in the forward and the inverse table and return the new
`A`; each restores what the other did (41_substitution.md R113, R114). -/
def Obligations.SubfSubiSubstituteEveryNibble : Prop :=
  formatZ 0x21 .subf ∧ formatZ 0x22 .subi ∧
  (∀ s : State, ∃ v : Block, exec .subf s = .next (answers 0 (v.setWidth 32) { s with a := v }) ∧
    (∀ j : BitVec 2, nib v j = Config.chip.sbox.forward.get (nib s.a j).toFin) ∧
    exec .subi { s with a := v } = .next (answers 0 (s.a.setWidth 32) s)) ∧
  (∀ s : State, ∃ v : Block, exec .subi s = .next (answers 0 (v.setWidth 32) { s with a := v }) ∧
    (∀ j : BitVec 2, nib v j = Config.chip.sbox.inverse.get (nib s.a j).toFin) ∧
    exec .subf { s with a := v } = .next (answers 0 (s.a.setWidth 32) s)) ∧
  sub SBox.defaultInstantiation 0x1234 = 0x4D12 ∧ subInv SBox.defaultInstantiation 0x4D12 = 0x1234 ∧
  subInv SBox.defaultInstantiation 0x1234 = 0x3481

/-- `RDSF`, `RDSI` and `RDPB` return the table entry at their index and change nothing; reading the inverse at a
forward entry gives the index back, and so does reading `PBOX` twice (41_substitution.md R115, R116,
42_permutation.md R123). -/
def Obligations.TableReadsReturnEntries : Prop :=
  formatX 0x84 .rdsf ∧ formatX 0x85 .rdsi ∧ formatX 0x86 .rdpb ∧
  (∀ (s : State) (x : Nibble), ∃ y : Nibble, exec (.rdsf x) s = .next (answers 0 (y.setWidth 32) s) ∧
    y = Config.chip.sbox.forward.get x.toFin ∧ exec (.rdsi y) s = .next (answers 0 (x.setWidth 32) s)) ∧
  (∀ (s : State) (x : Nibble), ∃ y : Nibble, exec (.rdsi x) s = .next (answers 0 (y.setWidth 32) s) ∧
    y = Config.chip.sbox.inverse.get x.toFin ∧ exec (.rdsf y) s = .next (answers 0 (x.setWidth 32) s)) ∧
  (∀ (s : State) (x : Nibble), ∃ y : Nibble, exec (.rdpb x) s = .next (answers 0 (y.setWidth 32) s) ∧
    y = Config.chip.pbox.table.get x.toFin ∧ exec (.rdpb y) s = .next (answers 0 (x.setWidth 32) s)) ∧
  SBox.defaultInstantiation.forward.get 0 = 0xE ∧ SBox.defaultInstantiation.forward.get 15 = 0x7 ∧
  SBox.defaultInstantiation.inverse.get 14 = 0 ∧ SBox.defaultInstantiation.inverse.get 0 = 0xE ∧
  PBox.defaultInstantiation.table.get 1 = 4 ∧ PBox.defaultInstantiation.table.get 4 = 1 ∧
  PBox.defaultInstantiation.table.get 15 = 15

/-! ## Permutation -/

/-- `permute(s, T)` sends bit `i` of the input to bit `T[i]` of the output, for every bijection `T`, an involution or
not (42_permutation.md R120). -/
def Obligations.PermuteSendsBits : Prop :=
  ∀ (T : Table) (s : Block), Function.Bijective (fun i : Fin 16 => (T.get i).toFin) →
    ∀ i : Fin 16, (permute s T).getLsbD (T.get i).toNat = s.getLsbD i

/-- The laws of `Pm` (42_permutation.md R121), in every configuration: self-inverse, a bijection that preserves the
number of 1 bits, linear, and fixed points of the table stay in place. -/
def Obligations.PermutationLaws : Prop :=
  ∀ pb : PBox, (∀ s : Block, perm pb (perm pb s) = s) ∧
    Function.Bijective (perm pb) ∧ (∀ s : Block, ones (perm pb s) = ones s) ∧
    (∀ x y : Block, perm pb (x ^^^ y) = perm pb x ^^^ perm pb y) ∧ perm pb 0 = 0 ∧ perm pb 0xFFFF = 0xFFFF ∧
    (∀ (s : Block) (i : Nibble), pb.table.get i.toFin = i →
      (perm pb s).getLsbD i.toNat = s.getLsbD i.toNat) ∧
    (∀ i : Nibble, pb.table.get (pb.table.get i.toFin).toFin = i)

/-- `PERM` moves bit `i` of `A` to bit `PBOX[i]` and returns the new `A`; 0x0000 and 0xFFFF stay, and a second `PERM`
restores `A` (42_permutation.md R122). -/
def Obligations.PermMovesBits : Prop :=
  formatZ 0x23 .perm ∧
  (∀ s : State, ∃ v : Block, exec .perm s = .next (answers 0 (v.setWidth 32) { s with a := v }) ∧
    (∀ i : Fin 16, v.getLsbD (Config.chip.pbox.table.get i).toNat = s.a.getLsbD i) ∧
    (s.a = 0x0000 → v = 0x0000) ∧ (s.a = 0xFFFF → v = 0xFFFF) ∧
    exec .perm { s with a := v } = .next (answers 0 (s.a.setWidth 32) s)) ∧
  perm PBox.defaultInstantiation 0x1234 = 0x016A ∧ perm PBox.defaultInstantiation 0x0002 = 0x0010 ∧
  perm PBox.defaultInstantiation 0x0010 = 0x0002 ∧ perm PBox.defaultInstantiation 0x8001 = 0x8001

/-! ## Key schedule -/

/-- The five subkeys of a digest, put together in order, are the digest: `K1` its first 16 bits, `K5` its last
(43_key_schedule.md R132). -/
def Obligations.ExpandSlicesDigest : Prop :=
  (∀ d : Digest, ((expand d).get 0 ++ (expand d).get 1 ++ (expand d).get 2 ++ (expand d).get 3 ++ (expand d).get 4 :
    BitVec 80) = d) ∧
  (∀ (cfg : Config) (seed : List Byte), generateKey cfg seed = expand (cfg.hash seed))

/-- `SEEDB imm8` appends a byte to the seed; the 65th fails `Capacity`. No other command writes a seed byte, and only
`SEEDC` and a successful `KGEN` empty the buffer (43_key_schedule.md R133). -/
def Obligations.SeedbAppendsByte : Prop :=
  formatB 0x12 .seedb ∧
  (∀ (s : State) (imm8 : Byte), s.seedLen.toNat < 64 → ∃ t : State, exec (.seedb imm8) s = .next (answers 0 0 t) ∧
    t = { s with seed := t.seed, seedLen := t.seedLen } ∧ t.seedLen.toNat = s.seedLen.toNat + 1 ∧
    (∀ j : Fin 64, t.seed.get j = if j.val = s.seedLen.toNat then imm8 else s.seed.get j)) ∧
  (∀ (s : State) (imm8 : Byte), s.seedLen.toNat = 64 → exec (.seedb imm8) s = failsWith 7 s) ∧
  (∀ (i : Instr) (s t : State), exec i s = .next t → opcode i ≠ 0x12 →
    t.seed = s.seed ∧ (t.seedLen = s.seedLen ∨ i = .seedc ∨ (i = .kgen ∧ 16 ≤ s.seedLen.toNat))) ∧
  (∃ t : State, exec (.seedb 0xAA) State.reset = .next (answers 0 0 t) ∧
    exec .rdst t = .next (answers 0 0x00010000 t))

/-- `SEEDC` empties the seed buffer and touches no key; `KCLR` zeroes and invalidates all five subkeys and touches no
seed (43_key_schedule.md R134, R137). -/
def Obligations.SeedcKclrDiscard : Prop :=
  formatZ 0x13 .seedc ∧ formatZ 0x11 .kclr ∧
  (∀ s : State, exec .seedc s = .next (answers 0 0 { s with seedLen := 0 })) ∧
  (∀ s : State, ∃ t : State, exec .kclr s = .next (answers 0 0 t) ∧ t = { s with k := t.k, kv := t.kv } ∧
    (∀ i : Fin 5, t.k.get i = 0x0000 ∧ t.kv.get i = false) ∧
    exec .enc t = failsWith 2 t ∧ exec .dec t = failsWith 2 t ∧
    (∀ r : BitVec 4, 1 ≤ r.toNat → r.toNat ≤ 5 → exec (.xork r) t = failsWith 2 t ∧ exec (.rdk r) t = failsWith 2 t))

/-- `KGEN` fails `EntropyUnavailable` below 16 seed bytes; from 16 to 64 bytes it sets all five subkeys to the slices
of `HASH` of exactly the bytes pushed, sets all `KV`, empties the buffer, and a second `KGEN` then fails
(43_key_schedule.md R135). -/
def Obligations.KgenDerivesKeyFromSeed : Prop :=
  formatZ 0x14 .kgen ∧
  (∀ s : State, s.seedLen.toNat < 16 → exec .kgen s = failsWith 3 s) ∧
  (∀ s : State, 16 ≤ s.seedLen.toNat → s.seedLen.toNat ≤ 64 → ∃ t : State, exec .kgen s = .next (answers 0 0 t) ∧
    t = { s with k := t.k, kv := t.kv, seedLen := 0 } ∧ (∀ i : Fin 5, t.kv.get i = true) ∧
    (t.k.get 0 ++ t.k.get 1 ++ t.k.get 2 ++ t.k.get 3 ++ t.k.get 4 : BitVec 80) =
      Config.chip.hash (s.seed.toList.take s.seedLen.toNat) ∧
    exec .kgen (answers 0 0 t) = failsWith 3 (answers 0 0 t))

/-- `KSET r, imm20` loads subkey `r` and sets its flag; a value beyond 16 bits fails `InvalidKeyMaterial`, and `r`
outside 1..5 is an illegal command whatever the value (43_key_schedule.md R136). -/
def Obligations.KsetLoadsSubkey : Prop :=
  formatK 0x10 .kset ∧
  (∀ (s : State) (r : BitVec 4) (imm20 : BitVec 20) (i : Fin 5), r.toNat = i.val + 1 → imm20.toNat ≤ 0xFFFF →
    ∃ t : State, exec (.kset r imm20) s = .next (answers 0 0 t) ∧ t = { s with k := t.k, kv := t.kv } ∧
      (∀ j : Fin 5, t.k.get j = if j = i then imm20.setWidth 16 else s.k.get j) ∧
      (∀ j : Fin 5, t.kv.get j = if j = i then true else s.kv.get j)) ∧
  (∀ (s : State) (r : BitVec 4) (imm20 : BitVec 20), 1 ≤ r.toNat → r.toNat ≤ 5 → 0xFFFF < imm20.toNat →
    exec (.kset r imm20) s = failsWith 2 s) ∧
  (∀ (s : State) (r : BitVec 4) (imm20 : BitVec 20), ¬(1 ≤ r.toNat ∧ r.toNat ≤ 5) →
    exec (.kset r imm20) s = failsWith 5 s)

/-- `RDK r` returns subkey `r` when it is present and fails `InvalidKeyMaterial` when it is not, whatever the other
four are (43_key_schedule.md R138). -/
def Obligations.RdkReadsPresentSubkey : Prop :=
  formatR 0x82 .rdk ∧
  (∀ (s : State) (r : BitVec 4) (i : Fin 5), r.toNat = i.val + 1 → s.kv.get i = true →
    exec (.rdk r) s = .next (answers 0 ((s.k.get i).setWidth 32) s)) ∧
  (∀ (s : State) (r : BitVec 4) (i : Fin 5), r.toNat = i.val + 1 → s.kv.get i = false →
    exec (.rdk r) s = failsWith 2 s)

/-! ## Cipher -/

/-- Decryption inverts encryption and encryption inverts decryption, for every key and every block and in every
configuration; so encryption is a bijection (44_cipher.md R149). -/
def Obligations.CipherRoundTrip : Prop :=
  ∀ (cfg : Config) (k : Vector Block 5), (∀ p : Block, decrypt cfg k (encrypt cfg k p) = p) ∧
    (∀ c : Block, encrypt cfg k (decrypt cfg k c) = c) ∧ Function.Bijective (encrypt cfg k)

/-- `ENC` with a complete key runs rounds 1 to 4 forward on `A` (no permutation in round 4, `K5` last) and returns the
ciphertext; with a subkey absent it fails `InvalidKeyMaterial` (44_cipher.md R145, R146, R147, R151). -/
def Obligations.EncRunsRoundsForward : Prop :=
  formatZ 0x24 .enc ∧
  (∀ s : State, (∀ i : Fin 5, s.kv.get i = true) →
    let S := sub Config.chip.sbox
    let Pm := perm Config.chip.pbox
    let s1 := Pm (S (s.a ^^^ s.k.get 0))
    let s2 := Pm (S (s1 ^^^ s.k.get 1))
    let s3 := Pm (S (s2 ^^^ s.k.get 2))
    let c := S (s3 ^^^ s.k.get 3) ^^^ s.k.get 4
    exec .enc s = .next (answers 0 (c.setWidth 32) { s with a := c })) ∧
  (∀ (s : State) (i : Fin 5), s.kv.get i = false → exec .enc s = failsWith 2 s) ∧
  (∀ hash, encrypt (Config.defaultTables hash) #v[0x1A2B, 0x3C4D, 0x5E6F, 0x7081, 0x9234] 0x1234 = 0x343C)

/-- `DEC` with a complete key runs the exact inverse on `A` (the loop undoes `K4`, `K3`, `K2`, then `K1`) and returns
the plaintext; with a subkey absent it fails `InvalidKeyMaterial` (44_cipher.md R148, R152). -/
def Obligations.DecRunsRoundsBackward : Prop :=
  formatZ 0x25 .dec ∧
  (∀ s : State, (∀ i : Fin 5, s.kv.get i = true) →
    let Sinv := subInv Config.chip.sbox
    let Pm := perm Config.chip.pbox
    let t0 := Sinv (s.a ^^^ s.k.get 4)
    let t1 := Sinv (Pm (t0 ^^^ s.k.get 3))
    let t2 := Sinv (Pm (t1 ^^^ s.k.get 2))
    let t3 := Sinv (Pm (t2 ^^^ s.k.get 1))
    let p := t3 ^^^ s.k.get 0
    exec .dec s = .next (answers 0 (p.setWidth 32) { s with a := p })) ∧
  (∀ (s : State) (i : Fin 5), s.kv.get i = false → exec .dec s = failsWith 2 s) ∧
  (∀ hash, decrypt (Config.defaultTables hash) #v[0x1A2B, 0x3C4D, 0x5E6F, 0x7081, 0x9234] 0x343C = 0x1234)

/-- `XORK r` mixes one present subkey into `A`; applied twice it restores `A`. The twelve step commands of R150 leave
in `A` what `ENC` leaves, and the twelve inverse ones what `DEC` leaves (44_cipher.md R150). -/
def Obligations.XorkMixesSubkey : Prop :=
  formatR 0x20 .xork ∧
  (∀ (s : State) (r : BitVec 4) (i : Fin 5), r.toNat = i.val + 1 → s.kv.get i = true →
    exec (.xork r) s = .next (answers 0 ((s.a ^^^ s.k.get i).setWidth 32) { s with a := s.a ^^^ s.k.get i }) ∧
    (run (program [.xork r, .xork r]) s).a = s.a) ∧
  (∀ (s : State) (r : BitVec 4) (i : Fin 5), r.toNat = i.val + 1 → s.kv.get i = false →
    exec (.xork r) s = failsWith 2 s) ∧
  (∀ s : State, (∀ i : Fin 5, s.kv.get i = true) →
    (run (program [.xork 1, .subf, .perm, .xork 2, .subf, .perm, .xork 3, .subf, .perm, .xork 4, .subf, .xork 5]) s).a =
      (run (program [.enc]) s).a ∧
    (run (program [.xork 5, .subi, .xork 4, .perm, .subi, .xork 3, .perm, .subi, .xork 2, .perm, .subi, .xork 1]) s).a =
      (run (program [.dec]) s).a)

/-- With a complete key, `ENC` followed by `DEC`, and `DEC` followed by `ENC`, restores every element and answers
twice with code 0 (44_cipher.md, section 2, the corner cases of `ENC` and `DEC`). -/
def Obligations.EncThenDecRestoresBlock : Prop :=
  ∀ s : State, (∀ i : Fin 5, s.kv.get i = true) →
    (∃ c : Block, run (program [.enc, .dec]) s =
      { s with output := s.output ++ [⟨0, c.setWidth 32⟩, ⟨0, s.a.setWidth 32⟩] }) ∧
    (∃ p : Block, run (program [.dec, .enc]) s =
      { s with output := s.output ++ [⟨0, p.setWidth 32⟩, ⟨0, s.a.setWidth 32⟩] })

/-! ## Linear Approximation Table -/

/-- Each cell of the table is the count of the 16 inputs on which the parities of the selected input and output bits
agree, an integer in 0..16, for every configuration (45_lat.md R161); its bias is the count less 8 (R163). -/
def Obligations.LatCellCountsAgreements : Prop :=
  ∀ (sb : SBox) (a b : Nibble), (((latTable sb).get a.toFin).get b.toFin).toNat = lat sb a b ∧ lat sb a b ≤ 16 ∧
    bias sb a b = (lat sb a b : Int) - 8

/-- The laws of the table, for every bijective `SBOX` (45_lat.md R164): the constant forms, every cell even, row sums
136 or 120 by `parity(a & SBOX_INV[0])`, column sums 136 or 120 by `parity(b & SBOX[0])`. -/
def Obligations.LatLaws : Prop :=
  ∀ sb : SBox,
    (lat sb 0 0 = 16 ∧ (∀ b : Nibble, b ≠ 0 → lat sb 0 b = 8) ∧ (∀ a : Nibble, a ≠ 0 → lat sb a 0 = 8)) ∧
    (∀ a b : Nibble, 2 ∣ lat sb a b) ∧
    (∀ a : Nibble, ∑ b : Fin 16, lat sb a (BitVec.ofFin b) =
      if parity (a &&& sb.inverse.get 0) then 120 else 136) ∧
    (∀ b : Nibble, ∑ a : Fin 16, lat sb (BitVec.ofFin a) b =
      if parity (b &&& sb.forward.get 0) then 120 else 136)

/-- `LATB` writes all 256 cells and `LATV` and nothing else, and a second `LATB` changes nothing; `RDLAT` returns the
count of a cell, and fails `NotReady` while no table is built (45_lat.md R165, R166). -/
def Obligations.LatbBuildsRdlatReads : Prop :=
  formatZ 0x30 .latb ∧ formatL 0x87 .rdlat ∧
  (∀ s : State, ∃ t : State, exec .latb s = .next (answers 0 0 t) ∧ t = { s with lat := t.lat, latv := true } ∧
    (∀ a b : Fin 16, ((t.lat.get a).get b).toNat = lat Config.chip.sbox (BitVec.ofFin a) (BitVec.ofFin b)) ∧
    exec .latb t = .next (answers 0 0 t) ∧ exec (.rdlat 0 0) t = .next (answers 0 16 t)) ∧
  (∀ (s : State) (a b : Nibble), s.latv = true →
    exec (.rdlat a b) s = .next (answers 0 (((s.lat.get a.toFin).get b.toFin).setWidth 32) s)) ∧
  (∀ (s : State) (a b : Nibble), s.latv = false → exec (.rdlat a b) s = failsWith 6 s) ∧
  lat SBox.defaultInstantiation 1 7 = 14 ∧ lat SBox.defaultInstantiation 2 14 = 2 ∧
  lat SBox.defaultInstantiation 11 4 = 12

/-! ## Recovery engine -/

/-- `APXP` and `APXU` set the approximation and touch neither counters nor result; `APXU` with equal units is an
illegal command that keeps all three registers (46_recovery.md R179, R180). -/
def Obligations.ApxpApxuSetApproximation : Prop :=
  formatH 0x40 .apxp ∧ formatU 0x41 .apxu ∧
  (∀ (s : State) (imm16 : BitVec 16), exec (.apxp imm16) s = .next (answers 0 0 { s with pmask := imm16 })) ∧
  (∀ (s : State) (thi tlo : BitVec 2) (umask : Byte), thi ≠ tlo →
    exec (.apxu thi tlo umask) s = .next (answers 0 0 { s with thi := thi, tlo := tlo, umask := umask })) ∧
  (∀ (s : State) (thi umask), exec (.apxu thi thi umask) s = failsWith 5 s)

/-- `RINIT` zeroes all 256 counters and `N`, clears the result and nothing else; reset leaves the engine in the same
state (46_recovery.md R181). -/
def Obligations.RinitStartsAttackRun : Prop :=
  formatZ 0x42 .rinit ∧
  (∀ s : State, ∃ t : State, exec .rinit s = .next (answers 0 0 t) ∧
    t = { s with cnt := t.cnt, n := 0, cand := 0x00, resv := false } ∧ (∀ c : Byte, t.cnt.get c.toFin = 0) ∧
    t.cnt = State.reset.cnt ∧ t.n = State.reset.n ∧ t.cand = State.reset.cand ∧ t.resv = State.reset.resv ∧
    exec .rdn t = .next (answers 0 0 t) ∧ exec .recov t = failsWith 4 t)

/-- `SMP` counts the pair (`P`, `A`): counter `c` goes up by 1 exactly when the exclusive-or of the selected plaintext
bits and of the selected bits of `{SBOX_INV[nib(A, THI) ^ c[7:4]], SBOX_INV[nib(A, TLO) ^ c[3:0]]}` is 0; `N` goes up
by 1 and the result is cleared. Exactly 128 counters move when `UMASK` is not 0 (so their sum grows by 128); when it
is 0, all 256 or none. At `N = 2^32 - 1` it fails `Capacity` (46_recovery.md R182, with the definitions R177 and
R178). -/
def Obligations.SmpCountsOneSample : Prop :=
  formatZ 0x43 .smp ∧
  (∀ s : State, s.n.toNat < 2 ^ 32 - 1 → ∃ t : State, exec .smp s = .next (answers 0 0 t) ∧
    t = { s with cnt := t.cnt, n := t.n, cand := 0x00, resv := false } ∧ t.n.toNat = s.n.toNat + 1 ∧
    (∀ c : Byte,
      let uHi : Nibble := Config.chip.sbox.inverse.get (nib s.a s.thi ^^^ c.extractLsb' 4 4).toFin
      let uLo : Nibble := Config.chip.sbox.inverse.get (nib s.a s.tlo ^^^ c.extractLsb' 0 4).toFin
      t.cnt.get c.toFin = s.cnt.get c.toFin +
        if parity (s.p &&& s.pmask) = parity ((uHi ++ uLo : BitVec 8) &&& s.umask) then 1 else 0) ∧
    (Finset.univ.filter fun c : Fin 256 => t.cnt.get c ≠ s.cnt.get c).card =
      (if s.umask ≠ 0 then 128 else if parity (s.p &&& s.pmask) then 0 else 256) ∧
    (s.umask ≠ 0 → (∀ c : Fin 256, (s.cnt.get c).toNat ≤ s.n.toNat) →
      ∑ c : Fin 256, (t.cnt.get c).toNat = ∑ c : Fin 256, (s.cnt.get c).toNat + 128)) ∧
  (∀ s : State, s.n.toNat = 2 ^ 32 - 1 → exec .smp s = failsWith 7 s) ∧
  (let cnt := countSample SBox.defaultInstantiation ⟨0x0B00, 0x55, 2, 0⟩ 0x0000 0x0000 (Vector.replicate 256 0)
   cnt.get 0x00 = 1 ∧ cnt.get 0x03 = 0 ∧ cnt.get 0x30 = 0 ∧ cnt.get 0x33 = 1)

/-- For any sample and any approximation, `t` is 0 on exactly 128 candidates when `UMASK` is not 0; when it is 0, on
all 256 if the selected plaintext bits have even parity and on none if odd, in every configuration (46_recovery.md,
section 3, the corner cases of `SMP`). -/
def Obligations.SmpMovesHalfTheCounters : Prop :=
  ∀ (sb : SBox) (ap : Approximation) (pt ct : Block),
    (Finset.univ.filter fun c : Fin 256 => evaluate sb ap pt ct (BitVec.ofFin c) = false).card =
      if ap.umask ≠ 0 then 128 else if parity (pt &&& ap.pmask) then 0 else 256

/-- The hypothesis of a candidate is read backward through the inverse table; for an honest ciphertext and the true
partial subkey it gives the true nibbles of the input of the last round's substitution (46_recovery.md R177), in
every configuration. -/
def Obligations.TrueCandidateGivesTrueInput : Prop :=
  (∀ (sb : SBox) (ap : Approximation) (ct : Block) (c : Byte), hypothesis sb ap ct c =
    (sb.inverse.get (nib ct ap.thi ^^^ c.extractLsb' 4 4).toFin ++
      sb.inverse.get (nib ct ap.tlo ^^^ c.extractLsb' 0 4).toFin : BitVec 8)) ∧
  (∀ (cfg : Config) (k : Vector Block 5) (ap : Approximation) (p : Block),
    let u4 := afterRound3 cfg k p ^^^ k.get 3
    hypothesis cfg.sbox ap (encrypt cfg k p) (nib (k.get 4) ap.thi ++ nib (k.get 4) ap.tlo : BitVec 8) =
      (nib u4 ap.thi ++ nib u4 ap.tlo : BitVec 8))

/-- `select(CNT, N)` is the least candidate of maximal `dev2`: no candidate has a greater one, and every smaller
candidate has a strictly smaller one (46_recovery.md R184). -/
def Obligations.SelectionIsLeastArgMax : Prop :=
  ∀ (cnt : Vector Word 256) (n : Word) (c : Byte), selectCandidate cnt n = c ↔
    (∀ c' : Byte, dev2 (cnt.get c'.toFin) n ≤ dev2 (cnt.get c.toFin) n) ∧
    (∀ c' : Byte, c'.toNat < c.toNat → dev2 (cnt.get c'.toFin) n < dev2 (cnt.get c.toFin) n)

/-- `RECOV` fails `EmptySampleSet` with no sample; otherwise it selects the least candidate whose `|2*CNT - N|` is
maximal, sets `CAND` and `RESV`, changes nothing else, and selects the same again. With one sample, or all counters
equal, it selects 0x00 (46_recovery.md R185). -/
def Obligations.RecovSelectsCandidate : Prop :=
  formatZ 0x44 .recov ∧
  (∀ s : State, s.n = 0 → exec .recov s = failsWith 4 s) ∧
  (∀ s : State, s.n ≠ 0 → ∃ c : Byte,
    let dev (x : Byte) : Int := |2 * ((s.cnt.get x.toFin).toNat : Int) - (s.n.toNat : Int)|
    let t := { s with cand := c, resv := true }
    exec .recov s = .next (answers 0 (c.setWidth 32) t) ∧ exec .recov t = .next (answers 0 (c.setWidth 32) t) ∧
    (∀ x : Byte, dev x ≤ dev c) ∧ (∀ x : Byte, x.toNat < c.toNat → dev x < dev c) ∧
    (s.n = 1 → (∀ x : Byte, (s.cnt.get x.toFin).toNat ≤ s.n.toNat) → c = 0x00) ∧
    ((∀ x y : Byte, s.cnt.get x.toFin = s.cnt.get y.toFin) → c = 0x00))

/-- `RDCNT` and `RDN` return a counter and the sample count at any time; `RDCAND` returns the candidate while
`RESV = 1` and fails `NotReady` while it is 0 (46_recovery.md R186, R187, R188). -/
def Obligations.RdcntRdnRdcandRead : Prop :=
  formatB 0x88 .rdcnt ∧ formatZ 0x89 .rdn ∧ formatZ 0x8A .rdcand ∧
  (∀ (s : State) (imm8 : Byte), exec (.rdcnt imm8) s = .next (answers 0 (s.cnt.get imm8.toFin) s)) ∧
  (∀ s : State, exec .rdn s = .next (answers 0 s.n s)) ∧
  (∀ s : State, s.resv = true → exec .rdcand s = .next (answers 0 (s.cand.setWidth 32) s)) ∧
  (∀ s : State, s.resv = false → exec .rdcand s = failsWith 6 s)

/-- `RDDEV imm8` returns `|2 * CNT[c] - N|`, at most `N`, computed without wrap-around (for counters at most `N`, as
they are in every reachable state); with no sample it fails `EmptySampleSet` (46_recovery.md R189). -/
def Obligations.RddevReturnsDeviation : Prop :=
  formatB 0x8B .rddev ∧
  (∀ (s : State) (imm8 : Byte), s.n ≠ 0 → (s.cnt.get imm8.toFin).toNat ≤ s.n.toNat →
    ∃ d : Word, exec (.rddev imm8) s = .next (answers 0 d s) ∧
      (d.toNat : Int) = |2 * ((s.cnt.get imm8.toFin).toNat : Int) - (s.n.toNat : Int)| ∧ d.toNat ≤ s.n.toNat) ∧
  (∀ (s : State) (imm8 : Byte), s.n = 0 → exec (.rddev imm8) s = failsWith 4 s)

/-- The deviation score `|CNT[c] - N/2| / N` is the fraction `dev2 / (2 * N)`, where `dev2` is at most `N`; it lies in
0 to 1/2, `RDDEV` and `RDN` deliver its two parts, and comparing `dev2` is comparing scores. With `N = 0` the commands that need it fail `EmptySampleSet`
(46_recovery.md R183). -/
def Obligations.ScoreIsExactFraction : Prop :=
  (∀ count n : Word, n ≠ 0 → count.toNat ≤ n.toNat →
    score count n = (dev2 count n : ℚ) / (2 * (n.toNat : ℚ)) ∧ dev2 count n ≤ n.toNat ∧
    0 ≤ score count n ∧ score count n ≤ 1 / 2) ∧
  (∀ (s : State) (c : Byte), s.n ≠ 0 → (s.cnt.get c.toFin).toNat ≤ s.n.toNat → ∃ d : Word,
    exec (.rddev c) s = .next (answers 0 d s) ∧ exec .rdn s = .next (answers 0 s.n s) ∧
    score (s.cnt.get c.toFin) s.n = (d.toNat : ℚ) / (2 * (s.n.toNat : ℚ))) ∧
  (∀ count count' n : Word, n ≠ 0 → (score count n < score count' n ↔ dev2 count n < dev2 count' n)) ∧
  (∀ (s : State) (c : Byte), s.n = 0 → exec .recov s = failsWith 4 s ∧ exec (.rddev c) s = failsWith 4 s)

/-- Polarity does not matter: counting the samples where the approximation does not hold leaves every `dev2` and the
selected candidate the same (46_recovery.md R191). -/
def Obligations.PolarityDoesNotMatter : Prop :=
  ∀ (cnt cnt' : Vector Word 256) (n : Word),
    (∀ c : Byte, (cnt.get c.toFin).toNat ≤ n.toNat ∧ cnt'.get c.toFin = n - cnt.get c.toFin) →
    (∀ c : Byte, dev2 (cnt'.get c.toFin) n = dev2 (cnt.get c.toFin) n) ∧
    selectCandidate cnt' n = selectCandidate cnt n

/-- Order does not matter: the counters and `N` after a list of samples depend on the multiset of samples only
(46_recovery.md R192), as long as `N` does not reach its limit. -/
def Obligations.SampleOrderDoesNotMatter : Prop :=
  ∀ (s : State) (l l' : List (Block × Block)), l.Perm l' → s.n.toNat + l.length < 2 ^ 32 →
    (run (samples l) s).cnt = (run (samples l') s).cnt ∧ (run (samples l) s).n = (run (samples l') s).n ∧
    (run (samples l) s).n.toNat = s.n.toNat + l.length

/-- The recovery engine works without the key (60_exceptions.md, section 2; 90_conflicts.md C5): its commands do the
same whatever the key registers and flags hold, and leave them. -/
def Obligations.RecoveryEngineIgnoresKey : Prop :=
  ∀ (i : Instr) (s : State) (k : Vector Block 5) (kv : Vector Bool 5),
    opcode i ∈ [0x40#8, 0x41#8, 0x42#8, 0x43#8, 0x44#8, 0x88#8, 0x89#8, 0x8A#8, 0x8B#8, 0x8C#8] →
    ∃ t : State, exec i s = .next t ∧ t.k = s.k ∧ t.kv = s.kv ∧
      exec i { s with k := k, kv := kv } = .next { t with k := k, kv := kv }

/-! ## Transactions -/

/-- The pseudo-instructions render the document's calls (30_encoding.md, section 7): `KLOAD` makes a complete key of
its five values, `ENCRYPT x` then answers with `x` and its encryption, `DECRYPT` of that with `x` again, and
`GENSAMPLE x` presents the honest pair of `x` and its encryption. -/
def Obligations.PseudoInstructionsRenderCalls : Prop :=
  ∀ (s : State) (k1 k2 k3 k4 k5 x : Block),
    let key : Vector Block 5 := #v[k1, k2, k3, k4, k5]
    let c := encrypt Config.chip key x
    let t := run (program (expansion (.kload (k1.setWidth 20) (k2.setWidth 20) (k3.setWidth 20) (k4.setWidth 20)
      (k5.setWidth 20)))) s
    t = { s with k := key, kv := Vector.replicate 5 true, output := s.output ++ List.replicate 5 ⟨0, 0⟩ } ∧
    run (program (expansion (.encrypt (x.setWidth 24)))) t =
      { t with a := c, output := t.output ++ [⟨0, x.setWidth 32⟩, ⟨0, c.setWidth 32⟩] } ∧
    run (program (expansion (.decrypt (c.setWidth 24)))) t =
      { t with a := x, output := t.output ++ [⟨0, c.setWidth 32⟩, ⟨0, x.setWidth 32⟩] } ∧
    (s.n.toNat < 2 ^ 32 - 1 →
      let u := run (program (expansion (.gensample (x.setWidth 24)))) t
      u.p = x ∧ u.a = c ∧ u.n.toNat = s.n.toNat + 1 ∧ u.err = s.err)
end

