-- ==== Sys2Proof/Laws/State.lean ====
section
/-! SUPPORT. One lemma per field per update of the state, true by `rfl`, so that no proof unfolds a record update. -/
namespace Sys2Proof.Machine
variable (s : State)

/-! ### `setA` -/

@[simp] theorem State.setA_a (v : Block) : (s.setA v).a = v := rfl
@[simp] theorem State.setA_p (v : Block) : (s.setA v).p = s.p := rfl
@[simp] theorem State.setA_k (v : Block) : (s.setA v).k = s.k := rfl
@[simp] theorem State.setA_kv (v : Block) : (s.setA v).kv = s.kv := rfl
@[simp] theorem State.setA_seed (v : Block) : (s.setA v).seed = s.seed := rfl
@[simp] theorem State.setA_seedLen (v : Block) : (s.setA v).seedLen = s.seedLen := rfl
@[simp] theorem State.setA_lat (v : Block) : (s.setA v).lat = s.lat := rfl
@[simp] theorem State.setA_latv (v : Block) : (s.setA v).latv = s.latv := rfl
@[simp] theorem State.setA_cnt (v : Block) : (s.setA v).cnt = s.cnt := rfl
@[simp] theorem State.setA_n (v : Block) : (s.setA v).n = s.n := rfl
@[simp] theorem State.setA_pmask (v : Block) : (s.setA v).pmask = s.pmask := rfl
@[simp] theorem State.setA_umask (v : Block) : (s.setA v).umask = s.umask := rfl
@[simp] theorem State.setA_thi (v : Block) : (s.setA v).thi = s.thi := rfl
@[simp] theorem State.setA_tlo (v : Block) : (s.setA v).tlo = s.tlo := rfl
@[simp] theorem State.setA_cand (v : Block) : (s.setA v).cand = s.cand := rfl
@[simp] theorem State.setA_resv (v : Block) : (s.setA v).resv = s.resv := rfl
@[simp] theorem State.setA_err (v : Block) : (s.setA v).err = s.err := rfl
@[simp] theorem State.setA_input (v : Block) : (s.setA v).input = s.input := rfl
@[simp] theorem State.setA_output (v : Block) : (s.setA v).output = s.output := rfl

/-! ### `setP` -/

@[simp] theorem State.setP_a (v : Block) : (s.setP v).a = s.a := rfl
@[simp] theorem State.setP_p (v : Block) : (s.setP v).p = v := rfl
@[simp] theorem State.setP_k (v : Block) : (s.setP v).k = s.k := rfl
@[simp] theorem State.setP_kv (v : Block) : (s.setP v).kv = s.kv := rfl
@[simp] theorem State.setP_seed (v : Block) : (s.setP v).seed = s.seed := rfl
@[simp] theorem State.setP_seedLen (v : Block) : (s.setP v).seedLen = s.seedLen := rfl
@[simp] theorem State.setP_lat (v : Block) : (s.setP v).lat = s.lat := rfl
@[simp] theorem State.setP_latv (v : Block) : (s.setP v).latv = s.latv := rfl
@[simp] theorem State.setP_cnt (v : Block) : (s.setP v).cnt = s.cnt := rfl
@[simp] theorem State.setP_n (v : Block) : (s.setP v).n = s.n := rfl
@[simp] theorem State.setP_pmask (v : Block) : (s.setP v).pmask = s.pmask := rfl
@[simp] theorem State.setP_umask (v : Block) : (s.setP v).umask = s.umask := rfl
@[simp] theorem State.setP_thi (v : Block) : (s.setP v).thi = s.thi := rfl
@[simp] theorem State.setP_tlo (v : Block) : (s.setP v).tlo = s.tlo := rfl
@[simp] theorem State.setP_cand (v : Block) : (s.setP v).cand = s.cand := rfl
@[simp] theorem State.setP_resv (v : Block) : (s.setP v).resv = s.resv := rfl
@[simp] theorem State.setP_err (v : Block) : (s.setP v).err = s.err := rfl
@[simp] theorem State.setP_input (v : Block) : (s.setP v).input = s.input := rfl
@[simp] theorem State.setP_output (v : Block) : (s.setP v).output = s.output := rfl

/-! ### `setKey` -/

@[simp] theorem State.setKey_a (i : Fin 5) (v : Block) : (s.setKey i v).a = s.a := rfl
@[simp] theorem State.setKey_p (i : Fin 5) (v : Block) : (s.setKey i v).p = s.p := rfl
@[simp] theorem State.setKey_k (i : Fin 5) (v : Block) : (s.setKey i v).k = s.k.set i v := rfl
@[simp] theorem State.setKey_kv (i : Fin 5) (v : Block) : (s.setKey i v).kv = s.kv.set i true := rfl
@[simp] theorem State.setKey_seed (i : Fin 5) (v : Block) : (s.setKey i v).seed = s.seed := rfl
@[simp] theorem State.setKey_seedLen (i : Fin 5) (v : Block) : (s.setKey i v).seedLen = s.seedLen := rfl
@[simp] theorem State.setKey_lat (i : Fin 5) (v : Block) : (s.setKey i v).lat = s.lat := rfl
@[simp] theorem State.setKey_latv (i : Fin 5) (v : Block) : (s.setKey i v).latv = s.latv := rfl
@[simp] theorem State.setKey_cnt (i : Fin 5) (v : Block) : (s.setKey i v).cnt = s.cnt := rfl
@[simp] theorem State.setKey_n (i : Fin 5) (v : Block) : (s.setKey i v).n = s.n := rfl
@[simp] theorem State.setKey_pmask (i : Fin 5) (v : Block) : (s.setKey i v).pmask = s.pmask := rfl
@[simp] theorem State.setKey_umask (i : Fin 5) (v : Block) : (s.setKey i v).umask = s.umask := rfl
@[simp] theorem State.setKey_thi (i : Fin 5) (v : Block) : (s.setKey i v).thi = s.thi := rfl
@[simp] theorem State.setKey_tlo (i : Fin 5) (v : Block) : (s.setKey i v).tlo = s.tlo := rfl
@[simp] theorem State.setKey_cand (i : Fin 5) (v : Block) : (s.setKey i v).cand = s.cand := rfl
@[simp] theorem State.setKey_resv (i : Fin 5) (v : Block) : (s.setKey i v).resv = s.resv := rfl
@[simp] theorem State.setKey_err (i : Fin 5) (v : Block) : (s.setKey i v).err = s.err := rfl
@[simp] theorem State.setKey_input (i : Fin 5) (v : Block) : (s.setKey i v).input = s.input := rfl
@[simp] theorem State.setKey_output (i : Fin 5) (v : Block) : (s.setKey i v).output = s.output := rfl

/-! ### `setKeys` -/

@[simp] theorem State.setKeys_a (ks : Vector Block 5) : (s.setKeys ks).a = s.a := rfl
@[simp] theorem State.setKeys_p (ks : Vector Block 5) : (s.setKeys ks).p = s.p := rfl
@[simp] theorem State.setKeys_k (ks : Vector Block 5) : (s.setKeys ks).k = ks := rfl
@[simp] theorem State.setKeys_kv (ks : Vector Block 5) : (s.setKeys ks).kv = Vector.replicate 5 true := rfl
@[simp] theorem State.setKeys_seed (ks : Vector Block 5) : (s.setKeys ks).seed = s.seed := rfl
@[simp] theorem State.setKeys_seedLen (ks : Vector Block 5) : (s.setKeys ks).seedLen = s.seedLen := rfl
@[simp] theorem State.setKeys_lat (ks : Vector Block 5) : (s.setKeys ks).lat = s.lat := rfl
@[simp] theorem State.setKeys_latv (ks : Vector Block 5) : (s.setKeys ks).latv = s.latv := rfl
@[simp] theorem State.setKeys_cnt (ks : Vector Block 5) : (s.setKeys ks).cnt = s.cnt := rfl
@[simp] theorem State.setKeys_n (ks : Vector Block 5) : (s.setKeys ks).n = s.n := rfl
@[simp] theorem State.setKeys_pmask (ks : Vector Block 5) : (s.setKeys ks).pmask = s.pmask := rfl
@[simp] theorem State.setKeys_umask (ks : Vector Block 5) : (s.setKeys ks).umask = s.umask := rfl
@[simp] theorem State.setKeys_thi (ks : Vector Block 5) : (s.setKeys ks).thi = s.thi := rfl
@[simp] theorem State.setKeys_tlo (ks : Vector Block 5) : (s.setKeys ks).tlo = s.tlo := rfl
@[simp] theorem State.setKeys_cand (ks : Vector Block 5) : (s.setKeys ks).cand = s.cand := rfl
@[simp] theorem State.setKeys_resv (ks : Vector Block 5) : (s.setKeys ks).resv = s.resv := rfl
@[simp] theorem State.setKeys_err (ks : Vector Block 5) : (s.setKeys ks).err = s.err := rfl
@[simp] theorem State.setKeys_input (ks : Vector Block 5) : (s.setKeys ks).input = s.input := rfl
@[simp] theorem State.setKeys_output (ks : Vector Block 5) : (s.setKeys ks).output = s.output := rfl

/-! ### `clearKeys` -/

@[simp] theorem State.clearKeys_a : (s.clearKeys).a = s.a := rfl
@[simp] theorem State.clearKeys_p : (s.clearKeys).p = s.p := rfl
@[simp] theorem State.clearKeys_k : (s.clearKeys).k = Vector.replicate 5 0x0000#16 := rfl
@[simp] theorem State.clearKeys_kv : (s.clearKeys).kv = Vector.replicate 5 false := rfl
@[simp] theorem State.clearKeys_seed : (s.clearKeys).seed = s.seed := rfl
@[simp] theorem State.clearKeys_seedLen : (s.clearKeys).seedLen = s.seedLen := rfl
@[simp] theorem State.clearKeys_lat : (s.clearKeys).lat = s.lat := rfl
@[simp] theorem State.clearKeys_latv : (s.clearKeys).latv = s.latv := rfl
@[simp] theorem State.clearKeys_cnt : (s.clearKeys).cnt = s.cnt := rfl
@[simp] theorem State.clearKeys_n : (s.clearKeys).n = s.n := rfl
@[simp] theorem State.clearKeys_pmask : (s.clearKeys).pmask = s.pmask := rfl
@[simp] theorem State.clearKeys_umask : (s.clearKeys).umask = s.umask := rfl
@[simp] theorem State.clearKeys_thi : (s.clearKeys).thi = s.thi := rfl
@[simp] theorem State.clearKeys_tlo : (s.clearKeys).tlo = s.tlo := rfl
@[simp] theorem State.clearKeys_cand : (s.clearKeys).cand = s.cand := rfl
@[simp] theorem State.clearKeys_resv : (s.clearKeys).resv = s.resv := rfl
@[simp] theorem State.clearKeys_err : (s.clearKeys).err = s.err := rfl
@[simp] theorem State.clearKeys_input : (s.clearKeys).input = s.input := rfl
@[simp] theorem State.clearKeys_output : (s.clearKeys).output = s.output := rfl

/-! ### `pushSeed` -/

@[simp] theorem State.pushSeed_a (b : Byte) : (s.pushSeed b).a = s.a := rfl
@[simp] theorem State.pushSeed_p (b : Byte) : (s.pushSeed b).p = s.p := rfl
@[simp] theorem State.pushSeed_k (b : Byte) : (s.pushSeed b).k = s.k := rfl
@[simp] theorem State.pushSeed_kv (b : Byte) : (s.pushSeed b).kv = s.kv := rfl
@[simp] theorem State.pushSeed_seed (b : Byte) : (s.pushSeed b).seed = s.seed.setIfInBounds s.seedLen.toNat b := rfl
@[simp] theorem State.pushSeed_seedLen (b : Byte) : (s.pushSeed b).seedLen = s.seedLen + 1 := rfl
@[simp] theorem State.pushSeed_lat (b : Byte) : (s.pushSeed b).lat = s.lat := rfl
@[simp] theorem State.pushSeed_latv (b : Byte) : (s.pushSeed b).latv = s.latv := rfl
@[simp] theorem State.pushSeed_cnt (b : Byte) : (s.pushSeed b).cnt = s.cnt := rfl
@[simp] theorem State.pushSeed_n (b : Byte) : (s.pushSeed b).n = s.n := rfl
@[simp] theorem State.pushSeed_pmask (b : Byte) : (s.pushSeed b).pmask = s.pmask := rfl
@[simp] theorem State.pushSeed_umask (b : Byte) : (s.pushSeed b).umask = s.umask := rfl
@[simp] theorem State.pushSeed_thi (b : Byte) : (s.pushSeed b).thi = s.thi := rfl
@[simp] theorem State.pushSeed_tlo (b : Byte) : (s.pushSeed b).tlo = s.tlo := rfl
@[simp] theorem State.pushSeed_cand (b : Byte) : (s.pushSeed b).cand = s.cand := rfl
@[simp] theorem State.pushSeed_resv (b : Byte) : (s.pushSeed b).resv = s.resv := rfl
@[simp] theorem State.pushSeed_err (b : Byte) : (s.pushSeed b).err = s.err := rfl
@[simp] theorem State.pushSeed_input (b : Byte) : (s.pushSeed b).input = s.input := rfl
@[simp] theorem State.pushSeed_output (b : Byte) : (s.pushSeed b).output = s.output := rfl

/-! ### `dropSeed` -/

@[simp] theorem State.dropSeed_a : (s.dropSeed).a = s.a := rfl
@[simp] theorem State.dropSeed_p : (s.dropSeed).p = s.p := rfl
@[simp] theorem State.dropSeed_k : (s.dropSeed).k = s.k := rfl
@[simp] theorem State.dropSeed_kv : (s.dropSeed).kv = s.kv := rfl
@[simp] theorem State.dropSeed_seed : (s.dropSeed).seed = s.seed := rfl
@[simp] theorem State.dropSeed_seedLen : (s.dropSeed).seedLen = 0 := rfl
@[simp] theorem State.dropSeed_lat : (s.dropSeed).lat = s.lat := rfl
@[simp] theorem State.dropSeed_latv : (s.dropSeed).latv = s.latv := rfl
@[simp] theorem State.dropSeed_cnt : (s.dropSeed).cnt = s.cnt := rfl
@[simp] theorem State.dropSeed_n : (s.dropSeed).n = s.n := rfl
@[simp] theorem State.dropSeed_pmask : (s.dropSeed).pmask = s.pmask := rfl
@[simp] theorem State.dropSeed_umask : (s.dropSeed).umask = s.umask := rfl
@[simp] theorem State.dropSeed_thi : (s.dropSeed).thi = s.thi := rfl
@[simp] theorem State.dropSeed_tlo : (s.dropSeed).tlo = s.tlo := rfl
@[simp] theorem State.dropSeed_cand : (s.dropSeed).cand = s.cand := rfl
@[simp] theorem State.dropSeed_resv : (s.dropSeed).resv = s.resv := rfl
@[simp] theorem State.dropSeed_err : (s.dropSeed).err = s.err := rfl
@[simp] theorem State.dropSeed_input : (s.dropSeed).input = s.input := rfl
@[simp] theorem State.dropSeed_output : (s.dropSeed).output = s.output := rfl

/-! ### `setLat` -/

@[simp] theorem State.setLat_a (t : Vector (Vector LatCell 16) 16) : (s.setLat t).a = s.a := rfl
@[simp] theorem State.setLat_p (t : Vector (Vector LatCell 16) 16) : (s.setLat t).p = s.p := rfl
@[simp] theorem State.setLat_k (t : Vector (Vector LatCell 16) 16) : (s.setLat t).k = s.k := rfl
@[simp] theorem State.setLat_kv (t : Vector (Vector LatCell 16) 16) : (s.setLat t).kv = s.kv := rfl
@[simp] theorem State.setLat_seed (t : Vector (Vector LatCell 16) 16) : (s.setLat t).seed = s.seed := rfl
@[simp] theorem State.setLat_seedLen (t : Vector (Vector LatCell 16) 16) : (s.setLat t).seedLen = s.seedLen := rfl
@[simp] theorem State.setLat_lat (t : Vector (Vector LatCell 16) 16) : (s.setLat t).lat = t := rfl
@[simp] theorem State.setLat_latv (t : Vector (Vector LatCell 16) 16) : (s.setLat t).latv = true := rfl
@[simp] theorem State.setLat_cnt (t : Vector (Vector LatCell 16) 16) : (s.setLat t).cnt = s.cnt := rfl
@[simp] theorem State.setLat_n (t : Vector (Vector LatCell 16) 16) : (s.setLat t).n = s.n := rfl
@[simp] theorem State.setLat_pmask (t : Vector (Vector LatCell 16) 16) : (s.setLat t).pmask = s.pmask := rfl
@[simp] theorem State.setLat_umask (t : Vector (Vector LatCell 16) 16) : (s.setLat t).umask = s.umask := rfl
@[simp] theorem State.setLat_thi (t : Vector (Vector LatCell 16) 16) : (s.setLat t).thi = s.thi := rfl
@[simp] theorem State.setLat_tlo (t : Vector (Vector LatCell 16) 16) : (s.setLat t).tlo = s.tlo := rfl
@[simp] theorem State.setLat_cand (t : Vector (Vector LatCell 16) 16) : (s.setLat t).cand = s.cand := rfl
@[simp] theorem State.setLat_resv (t : Vector (Vector LatCell 16) 16) : (s.setLat t).resv = s.resv := rfl
@[simp] theorem State.setLat_err (t : Vector (Vector LatCell 16) 16) : (s.setLat t).err = s.err := rfl
@[simp] theorem State.setLat_input (t : Vector (Vector LatCell 16) 16) : (s.setLat t).input = s.input := rfl
@[simp] theorem State.setLat_output (t : Vector (Vector LatCell 16) 16) : (s.setLat t).output = s.output := rfl

/-! ### `setPmask` -/

@[simp] theorem State.setPmask_a (m : Block) : (s.setPmask m).a = s.a := rfl
@[simp] theorem State.setPmask_p (m : Block) : (s.setPmask m).p = s.p := rfl
@[simp] theorem State.setPmask_k (m : Block) : (s.setPmask m).k = s.k := rfl
@[simp] theorem State.setPmask_kv (m : Block) : (s.setPmask m).kv = s.kv := rfl
@[simp] theorem State.setPmask_seed (m : Block) : (s.setPmask m).seed = s.seed := rfl
@[simp] theorem State.setPmask_seedLen (m : Block) : (s.setPmask m).seedLen = s.seedLen := rfl
@[simp] theorem State.setPmask_lat (m : Block) : (s.setPmask m).lat = s.lat := rfl
@[simp] theorem State.setPmask_latv (m : Block) : (s.setPmask m).latv = s.latv := rfl
@[simp] theorem State.setPmask_cnt (m : Block) : (s.setPmask m).cnt = s.cnt := rfl
@[simp] theorem State.setPmask_n (m : Block) : (s.setPmask m).n = s.n := rfl
@[simp] theorem State.setPmask_pmask (m : Block) : (s.setPmask m).pmask = m := rfl
@[simp] theorem State.setPmask_umask (m : Block) : (s.setPmask m).umask = s.umask := rfl
@[simp] theorem State.setPmask_thi (m : Block) : (s.setPmask m).thi = s.thi := rfl
@[simp] theorem State.setPmask_tlo (m : Block) : (s.setPmask m).tlo = s.tlo := rfl
@[simp] theorem State.setPmask_cand (m : Block) : (s.setPmask m).cand = s.cand := rfl
@[simp] theorem State.setPmask_resv (m : Block) : (s.setPmask m).resv = s.resv := rfl
@[simp] theorem State.setPmask_err (m : Block) : (s.setPmask m).err = s.err := rfl
@[simp] theorem State.setPmask_input (m : Block) : (s.setPmask m).input = s.input := rfl
@[simp] theorem State.setPmask_output (m : Block) : (s.setPmask m).output = s.output := rfl

/-! ### `setTarget` -/

@[simp] theorem State.setTarget_a (thi tlo : BitVec 2) (umask : Byte) : (s.setTarget thi tlo umask).a = s.a := rfl
@[simp] theorem State.setTarget_p (thi tlo : BitVec 2) (umask : Byte) : (s.setTarget thi tlo umask).p = s.p := rfl
@[simp] theorem State.setTarget_k (thi tlo : BitVec 2) (umask : Byte) : (s.setTarget thi tlo umask).k = s.k := rfl
@[simp] theorem State.setTarget_kv (thi tlo : BitVec 2) (umask : Byte) : (s.setTarget thi tlo umask).kv = s.kv := rfl
@[simp] theorem State.setTarget_seed (thi tlo : BitVec 2) (umask : Byte) : (s.setTarget thi tlo umask).seed = s.seed := rfl
@[simp] theorem State.setTarget_seedLen (thi tlo : BitVec 2) (umask : Byte) : (s.setTarget thi tlo umask).seedLen = s.seedLen := rfl
@[simp] theorem State.setTarget_lat (thi tlo : BitVec 2) (umask : Byte) : (s.setTarget thi tlo umask).lat = s.lat := rfl
@[simp] theorem State.setTarget_latv (thi tlo : BitVec 2) (umask : Byte) : (s.setTarget thi tlo umask).latv = s.latv := rfl
@[simp] theorem State.setTarget_cnt (thi tlo : BitVec 2) (umask : Byte) : (s.setTarget thi tlo umask).cnt = s.cnt := rfl
@[simp] theorem State.setTarget_n (thi tlo : BitVec 2) (umask : Byte) : (s.setTarget thi tlo umask).n = s.n := rfl
@[simp] theorem State.setTarget_pmask (thi tlo : BitVec 2) (umask : Byte) : (s.setTarget thi tlo umask).pmask = s.pmask := rfl
@[simp] theorem State.setTarget_umask (thi tlo : BitVec 2) (umask : Byte) : (s.setTarget thi tlo umask).umask = umask := rfl
@[simp] theorem State.setTarget_thi (thi tlo : BitVec 2) (umask : Byte) : (s.setTarget thi tlo umask).thi = thi := rfl
@[simp] theorem State.setTarget_tlo (thi tlo : BitVec 2) (umask : Byte) : (s.setTarget thi tlo umask).tlo = tlo := rfl
@[simp] theorem State.setTarget_cand (thi tlo : BitVec 2) (umask : Byte) : (s.setTarget thi tlo umask).cand = s.cand := rfl
@[simp] theorem State.setTarget_resv (thi tlo : BitVec 2) (umask : Byte) : (s.setTarget thi tlo umask).resv = s.resv := rfl
@[simp] theorem State.setTarget_err (thi tlo : BitVec 2) (umask : Byte) : (s.setTarget thi tlo umask).err = s.err := rfl
@[simp] theorem State.setTarget_input (thi tlo : BitVec 2) (umask : Byte) : (s.setTarget thi tlo umask).input = s.input := rfl
@[simp] theorem State.setTarget_output (thi tlo : BitVec 2) (umask : Byte) : (s.setTarget thi tlo umask).output = s.output := rfl

/-! ### `setCounts` -/

@[simp] theorem State.setCounts_a (counts : Vector Word 256) (n : Word) : (s.setCounts counts n).a = s.a := rfl
@[simp] theorem State.setCounts_p (counts : Vector Word 256) (n : Word) : (s.setCounts counts n).p = s.p := rfl
@[simp] theorem State.setCounts_k (counts : Vector Word 256) (n : Word) : (s.setCounts counts n).k = s.k := rfl
@[simp] theorem State.setCounts_kv (counts : Vector Word 256) (n : Word) : (s.setCounts counts n).kv = s.kv := rfl
@[simp] theorem State.setCounts_seed (counts : Vector Word 256) (n : Word) : (s.setCounts counts n).seed = s.seed := rfl
@[simp] theorem State.setCounts_seedLen (counts : Vector Word 256) (n : Word) : (s.setCounts counts n).seedLen = s.seedLen := rfl
@[simp] theorem State.setCounts_lat (counts : Vector Word 256) (n : Word) : (s.setCounts counts n).lat = s.lat := rfl
@[simp] theorem State.setCounts_latv (counts : Vector Word 256) (n : Word) : (s.setCounts counts n).latv = s.latv := rfl
@[simp] theorem State.setCounts_cnt (counts : Vector Word 256) (n : Word) : (s.setCounts counts n).cnt = counts := rfl
@[simp] theorem State.setCounts_n (counts : Vector Word 256) (n : Word) : (s.setCounts counts n).n = n := rfl
@[simp] theorem State.setCounts_pmask (counts : Vector Word 256) (n : Word) : (s.setCounts counts n).pmask = s.pmask := rfl
@[simp] theorem State.setCounts_umask (counts : Vector Word 256) (n : Word) : (s.setCounts counts n).umask = s.umask := rfl
@[simp] theorem State.setCounts_thi (counts : Vector Word 256) (n : Word) : (s.setCounts counts n).thi = s.thi := rfl
@[simp] theorem State.setCounts_tlo (counts : Vector Word 256) (n : Word) : (s.setCounts counts n).tlo = s.tlo := rfl
@[simp] theorem State.setCounts_cand (counts : Vector Word 256) (n : Word) : (s.setCounts counts n).cand = 0x00 := rfl
@[simp] theorem State.setCounts_resv (counts : Vector Word 256) (n : Word) : (s.setCounts counts n).resv = false := rfl
@[simp] theorem State.setCounts_err (counts : Vector Word 256) (n : Word) : (s.setCounts counts n).err = s.err := rfl
@[simp] theorem State.setCounts_input (counts : Vector Word 256) (n : Word) : (s.setCounts counts n).input = s.input := rfl
@[simp] theorem State.setCounts_output (counts : Vector Word 256) (n : Word) : (s.setCounts counts n).output = s.output := rfl

/-! ### `setResult` -/

@[simp] theorem State.setResult_a (c : Byte) : (s.setResult c).a = s.a := rfl
@[simp] theorem State.setResult_p (c : Byte) : (s.setResult c).p = s.p := rfl
@[simp] theorem State.setResult_k (c : Byte) : (s.setResult c).k = s.k := rfl
@[simp] theorem State.setResult_kv (c : Byte) : (s.setResult c).kv = s.kv := rfl
@[simp] theorem State.setResult_seed (c : Byte) : (s.setResult c).seed = s.seed := rfl
@[simp] theorem State.setResult_seedLen (c : Byte) : (s.setResult c).seedLen = s.seedLen := rfl
@[simp] theorem State.setResult_lat (c : Byte) : (s.setResult c).lat = s.lat := rfl
@[simp] theorem State.setResult_latv (c : Byte) : (s.setResult c).latv = s.latv := rfl
@[simp] theorem State.setResult_cnt (c : Byte) : (s.setResult c).cnt = s.cnt := rfl
@[simp] theorem State.setResult_n (c : Byte) : (s.setResult c).n = s.n := rfl
@[simp] theorem State.setResult_pmask (c : Byte) : (s.setResult c).pmask = s.pmask := rfl
@[simp] theorem State.setResult_umask (c : Byte) : (s.setResult c).umask = s.umask := rfl
@[simp] theorem State.setResult_thi (c : Byte) : (s.setResult c).thi = s.thi := rfl
@[simp] theorem State.setResult_tlo (c : Byte) : (s.setResult c).tlo = s.tlo := rfl
@[simp] theorem State.setResult_cand (c : Byte) : (s.setResult c).cand = c := rfl
@[simp] theorem State.setResult_resv (c : Byte) : (s.setResult c).resv = true := rfl
@[simp] theorem State.setResult_err (c : Byte) : (s.setResult c).err = s.err := rfl
@[simp] theorem State.setResult_input (c : Byte) : (s.setResult c).input = s.input := rfl
@[simp] theorem State.setResult_output (c : Byte) : (s.setResult c).output = s.output := rfl

/-! ### `respond` -/

@[simp] theorem State.respond_a (r : Response) : (s.respond r).a = s.a := rfl
@[simp] theorem State.respond_p (r : Response) : (s.respond r).p = s.p := rfl
@[simp] theorem State.respond_k (r : Response) : (s.respond r).k = s.k := rfl
@[simp] theorem State.respond_kv (r : Response) : (s.respond r).kv = s.kv := rfl
@[simp] theorem State.respond_seed (r : Response) : (s.respond r).seed = s.seed := rfl
@[simp] theorem State.respond_seedLen (r : Response) : (s.respond r).seedLen = s.seedLen := rfl
@[simp] theorem State.respond_lat (r : Response) : (s.respond r).lat = s.lat := rfl
@[simp] theorem State.respond_latv (r : Response) : (s.respond r).latv = s.latv := rfl
@[simp] theorem State.respond_cnt (r : Response) : (s.respond r).cnt = s.cnt := rfl
@[simp] theorem State.respond_n (r : Response) : (s.respond r).n = s.n := rfl
@[simp] theorem State.respond_pmask (r : Response) : (s.respond r).pmask = s.pmask := rfl
@[simp] theorem State.respond_umask (r : Response) : (s.respond r).umask = s.umask := rfl
@[simp] theorem State.respond_thi (r : Response) : (s.respond r).thi = s.thi := rfl
@[simp] theorem State.respond_tlo (r : Response) : (s.respond r).tlo = s.tlo := rfl
@[simp] theorem State.respond_cand (r : Response) : (s.respond r).cand = s.cand := rfl
@[simp] theorem State.respond_resv (r : Response) : (s.respond r).resv = s.resv := rfl
@[simp] theorem State.respond_err (r : Response) : (s.respond r).err = s.err := rfl
@[simp] theorem State.respond_input (r : Response) : (s.respond r).input = s.input := rfl
@[simp] theorem State.respond_output (r : Response) : (s.respond r).output = s.output ++ [r] := rfl

/-! ### `failed` -/

@[simp] theorem State.failed_a (e : FailKind) : (s.failed e).a = s.a := rfl
@[simp] theorem State.failed_p (e : FailKind) : (s.failed e).p = s.p := rfl
@[simp] theorem State.failed_k (e : FailKind) : (s.failed e).k = s.k := rfl
@[simp] theorem State.failed_kv (e : FailKind) : (s.failed e).kv = s.kv := rfl
@[simp] theorem State.failed_seed (e : FailKind) : (s.failed e).seed = s.seed := rfl
@[simp] theorem State.failed_seedLen (e : FailKind) : (s.failed e).seedLen = s.seedLen := rfl
@[simp] theorem State.failed_lat (e : FailKind) : (s.failed e).lat = s.lat := rfl
@[simp] theorem State.failed_latv (e : FailKind) : (s.failed e).latv = s.latv := rfl
@[simp] theorem State.failed_cnt (e : FailKind) : (s.failed e).cnt = s.cnt := rfl
@[simp] theorem State.failed_n (e : FailKind) : (s.failed e).n = s.n := rfl
@[simp] theorem State.failed_pmask (e : FailKind) : (s.failed e).pmask = s.pmask := rfl
@[simp] theorem State.failed_umask (e : FailKind) : (s.failed e).umask = s.umask := rfl
@[simp] theorem State.failed_thi (e : FailKind) : (s.failed e).thi = s.thi := rfl
@[simp] theorem State.failed_tlo (e : FailKind) : (s.failed e).tlo = s.tlo := rfl
@[simp] theorem State.failed_cand (e : FailKind) : (s.failed e).cand = s.cand := rfl
@[simp] theorem State.failed_resv (e : FailKind) : (s.failed e).resv = s.resv := rfl
@[simp] theorem State.failed_err (e : FailKind) : (s.failed e).err = stickyErr s.err e := rfl
@[simp] theorem State.failed_input (e : FailKind) : (s.failed e).input = s.input := rfl
@[simp] theorem State.failed_output (e : FailKind) : (s.failed e).output = s.output ++ [⟨e.code, 0⟩] := rfl

/-! ### `present` -/

@[simp] theorem State.present_a (e : Event) : (s.present e).a = s.a := rfl
@[simp] theorem State.present_p (e : Event) : (s.present e).p = s.p := rfl
@[simp] theorem State.present_k (e : Event) : (s.present e).k = s.k := rfl
@[simp] theorem State.present_kv (e : Event) : (s.present e).kv = s.kv := rfl
@[simp] theorem State.present_seed (e : Event) : (s.present e).seed = s.seed := rfl
@[simp] theorem State.present_seedLen (e : Event) : (s.present e).seedLen = s.seedLen := rfl
@[simp] theorem State.present_lat (e : Event) : (s.present e).lat = s.lat := rfl
@[simp] theorem State.present_latv (e : Event) : (s.present e).latv = s.latv := rfl
@[simp] theorem State.present_cnt (e : Event) : (s.present e).cnt = s.cnt := rfl
@[simp] theorem State.present_n (e : Event) : (s.present e).n = s.n := rfl
@[simp] theorem State.present_pmask (e : Event) : (s.present e).pmask = s.pmask := rfl
@[simp] theorem State.present_umask (e : Event) : (s.present e).umask = s.umask := rfl
@[simp] theorem State.present_thi (e : Event) : (s.present e).thi = s.thi := rfl
@[simp] theorem State.present_tlo (e : Event) : (s.present e).tlo = s.tlo := rfl
@[simp] theorem State.present_cand (e : Event) : (s.present e).cand = s.cand := rfl
@[simp] theorem State.present_resv (e : Event) : (s.present e).resv = s.resv := rfl
@[simp] theorem State.present_err (e : Event) : (s.present e).err = s.err := rfl
@[simp] theorem State.present_input (e : Event) : (s.present e).input = e :: s.input := rfl
@[simp] theorem State.present_output (e : Event) : (s.present e).output = s.output := rfl

/-! ### `takeReset` -/

@[simp] theorem State.takeReset_a : s.takeReset.a = State.reset.a := rfl
@[simp] theorem State.takeReset_p : s.takeReset.p = State.reset.p := rfl
@[simp] theorem State.takeReset_k : s.takeReset.k = State.reset.k := rfl
@[simp] theorem State.takeReset_kv : s.takeReset.kv = State.reset.kv := rfl
@[simp] theorem State.takeReset_seed : s.takeReset.seed = State.reset.seed := rfl
@[simp] theorem State.takeReset_seedLen : s.takeReset.seedLen = State.reset.seedLen := rfl
@[simp] theorem State.takeReset_lat : s.takeReset.lat = State.reset.lat := rfl
@[simp] theorem State.takeReset_latv : s.takeReset.latv = State.reset.latv := rfl
@[simp] theorem State.takeReset_cnt : s.takeReset.cnt = State.reset.cnt := rfl
@[simp] theorem State.takeReset_n : s.takeReset.n = State.reset.n := rfl
@[simp] theorem State.takeReset_pmask : s.takeReset.pmask = State.reset.pmask := rfl
@[simp] theorem State.takeReset_umask : s.takeReset.umask = State.reset.umask := rfl
@[simp] theorem State.takeReset_thi : s.takeReset.thi = State.reset.thi := rfl
@[simp] theorem State.takeReset_tlo : s.takeReset.tlo = State.reset.tlo := rfl
@[simp] theorem State.takeReset_cand : s.takeReset.cand = State.reset.cand := rfl
@[simp] theorem State.takeReset_resv : s.takeReset.resv = State.reset.resv := rfl
@[simp] theorem State.takeReset_err : s.takeReset.err = State.reset.err := rfl
@[simp] theorem State.takeReset_input : s.takeReset.input = s.input := rfl
@[simp] theorem State.takeReset_output : s.takeReset.output = s.output := rfl

end Sys2Proof.Machine
end

