-- ==== Sys2Proof/Laws/Ops.lean ====
section
/-! SUPPORT. What each shared operation can do, said once: proofs cite these lemmas instead of unfolding the
operation. -/
namespace Sys2Proof.Machine

/-! ### Arrays, operands and flags -/

@[simp] theorem get_tabulate {α : Type} {n : Nat} (f : Fin n → α) (i : Fin n) : (tabulate f).get i = f i := by
  simp [tabulate, Vector.get]
  rfl

theorem vector_ext_get {α : Type} {n : Nat} {u v : Vector α n} (h : ∀ i, u.get i = v.get i) : u = v := by
  ext i hi
  simpa [Vector.get] using h ⟨i, hi⟩

@[simp] theorem get_set {α : Type} {n : Nat} (v : Vector α n) (i j : Fin n) (x : α) :
    (v.set i x).get j = if i = j then x else v.get j := by
  change (v.set i x)[j.val] = if i = j then x else v[j.val]
  simp [Vector.getElem_set, Fin.ext_iff]

@[simp] theorem get_replicate {α : Type} {n : Nat} (x : α) (i : Fin n) : (Vector.replicate n x).get i = x := by
  change (Vector.replicate n x)[i.val] = x
  simp

theorem fits16_iff {w : Nat} (x : BitVec w) : fits16 x = true ↔ x.toNat ≤ 0xFFFF := by
  simp [fits16]

theorem subkeyIndex_eq_some {r : BitVec 4} {i : Fin 5} : subkeyIndex r = some i ↔ r.toNat = i.val + 1 := by
  unfold subkeyIndex
  split <;> simp [Fin.ext_iff] <;> omega

theorem subkeyIndex_eq_none {r : BitVec 4} : subkeyIndex r = none ↔ legalSubkey r = false := by
  unfold subkeyIndex legalSubkey
  split <;> simp_all

theorem keyComplete_iff (s : State) : s.keyComplete = true ↔ ∀ i, s.kv.get i = true := by
  simp [State.keyComplete, Fin.forall_fin_succ, and_assoc]

theorem stickyErr_of_zero (e : FailKind) : stickyErr 0#4 e = e.code := rfl

theorem stickyErr_of_ne {err : BitVec 4} (h : err ≠ 0#4) (e : FailKind) : stickyErr err e = err := by
  simp [stickyErr, h]

theorem code_ne_zero (e : FailKind) : e.code ≠ 0#4 := by cases e <;> decide

theorem code_injective {e f : FailKind} (h : e.code = f.code) : e = f := by
  cases e <;> cases f <;> first | rfl | (exact absurd h (by decide))

/-! ### Parity -/

theorem parityBelow_xor {w : Nat} (x y : BitVec w) (m : Nat) :
    parityBelow (x ^^^ y) m = Bool.xor (parityBelow x m) (parityBelow y m) := by
  induction m with
  | zero => rfl
  | succ m ih =>
    simp only [parityBelow, ih, BitVec.getLsbD_xor]
    cases parityBelow x m <;> cases parityBelow y m <;> cases x.getLsbD m <;> cases y.getLsbD m <;> rfl

/-- Parity is linear over exclusive-or. -/
theorem parity_xor {w : Nat} (x y : BitVec w) : parity (x ^^^ y) = Bool.xor (parity x) (parity y) :=
  parityBelow_xor x y w

/-! ### Permutation -/

theorem getLsbD_placeBit (s : Block) (T : Table) (out : Block) (i : Fin 16) (j : Nat) :
    (placeBit s T out i).getLsbD j = (out.getLsbD j || (s.getLsbD i && decide (j = (T.get i).toNat))) := by
  have hT : (T.get i).toNat < 16 := (T.get i).isLt
  unfold placeBit
  split
  · rename_i h
    rw [h, BitVec.getLsbD_or, BitVec.getLsbD_shiftLeft, BitVec.getLsbD_one]
    by_cases hj : j = (T.get i).toNat
    · simp [hj, hT]
    · have : ¬ (j - (T.get i).toNat = 0 ∧ (T.get i).toNat ≤ j) := by omega
      grind
  · rename_i h
    simp only [Bool.not_eq_true] at h
    rw [h]
    simp

/-! ### The end of a command -/

theorem ok_eq (data : Word) (s : State) : ok data s = .next (s.respond ⟨0, data⟩) := rfl

theorem fail_eq (e : FailKind) (s : State) : fail e s = .next (s.failed e) := rfl

theorem okA_eq (v : Block) (s : State) : okA v s = .next ((s.setA v).respond ⟨0, v.setWidth 32⟩) := rfl

/-- What success leaves: the state it is given, with one response of code 0. -/
theorem ok_next {data : Word} {s t : State} (h : ok data s = .next t) : t = s.respond ⟨0, data⟩ := by
  cases h; rfl

/-- What a failure leaves: the state it is given but for `ERR`, with one response of nonzero code and data 0. -/
theorem fail_next {e : FailKind} {s t : State} (h : fail e s = .next t) : t = s.failed e := by
  cases h; rfl

/-- What a command that writes `A` leaves. -/
theorem okA_next {v : Block} {s t : State} (h : okA v s = .next t) :
    t = (s.setA v).respond ⟨0, v.setWidth 32⟩ := by
  cases h; rfl

/-! ### The host's events -/

theorem nextEvent_nil {s : State} (h : s.input = []) : s.nextEvent = none := by
  simp [State.nextEvent, h]

theorem nextEvent_cons {s : State} {e : Event} {rest : List Event} (h : s.input = e :: rest) :
    s.nextEvent = some (e, { s with input := rest }) := by
  simp [State.nextEvent, h]

/-- Presenting an event and taking it off the port again gives the state back. -/
theorem nextEvent_present (s : State) (e : Event) : (s.present e).nextEvent = some (e, s) := rfl

end Sys2Proof.Machine
end

