-- ==== Sys2Proof/Laws/PerInstr.lean ====
section
/-! SUPPORT. The family `EncodesTableRow`, made per instruction: the encoder agrees with opcode_table.json, whose rows
are written out here from its `match` and `mask` columns. -/
namespace Sys2Proof.Laws

/-- The `match` and `mask` of a command's row of opcode_table.json. -/
def tableRow : Instr → Word × Word
  | .lda _ => (0x01000000#32, 0xFF000000#32)
  | .ldp _ => (0x02000000#32, 0xFF000000#32)
  | .mvp => (0x03000000#32, 0xFFFFFFFF#32)
  | .kset _ _ => (0x10000000#32, 0xFF000000#32)
  | .kclr => (0x11000000#32, 0xFFFFFFFF#32)
  | .seedb _ => (0x12000000#32, 0xFFFFFF00#32)
  | .seedc => (0x13000000#32, 0xFFFFFFFF#32)
  | .kgen => (0x14000000#32, 0xFFFFFFFF#32)
  | .xork _ => (0x20000000#32, 0xFF0FFFFF#32)
  | .subf => (0x21000000#32, 0xFFFFFFFF#32)
  | .subi => (0x22000000#32, 0xFFFFFFFF#32)
  | .perm => (0x23000000#32, 0xFFFFFFFF#32)
  | .enc => (0x24000000#32, 0xFFFFFFFF#32)
  | .dec => (0x25000000#32, 0xFFFFFFFF#32)
  | .latb => (0x30000000#32, 0xFFFFFFFF#32)
  | .apxp _ => (0x40000000#32, 0xFFFF0000#32)
  | .apxu _ _ _ => (0x41000000#32, 0xFFFFF000#32)
  | .rinit => (0x42000000#32, 0xFFFFFFFF#32)
  | .smp => (0x43000000#32, 0xFFFFFFFF#32)
  | .recov => (0x44000000#32, 0xFFFFFFFF#32)
  | .rda => (0x80000000#32, 0xFFFFFFFF#32)
  | .rdp => (0x81000000#32, 0xFFFFFFFF#32)
  | .rdk _ => (0x82000000#32, 0xFF0FFFFF#32)
  | .rdst => (0x83000000#32, 0xFFFFFFFF#32)
  | .rdsf _ => (0x84000000#32, 0xFFFFFFF0#32)
  | .rdsi _ => (0x85000000#32, 0xFFFFFFF0#32)
  | .rdpb _ => (0x86000000#32, 0xFFFFFFF0#32)
  | .rdlat _ _ => (0x87000000#32, 0xFFFFFF00#32)
  | .rdcnt _ => (0x88000000#32, 0xFFFFFF00#32)
  | .rdn => (0x89000000#32, 0xFFFFFFFF#32)
  | .rdcand => (0x8A000000#32, 0xFFFFFFFF#32)
  | .rddev _ => (0x8B000000#32, 0xFFFFFF00#32)
  | .rdapx => (0x8C000000#32, 0xFFFFFFFF#32)

/-- The word of a command selects the command's row of the table: `w & mask = match` (30_encoding.md, opening). -/
def EncodesTableRow.Statement (i : Instr) : Prop := encode i &&& (tableRow i).2 = (tableRow i).1

/-! One lemma per format: the reserved bits are selected and are zero, the operand bits are not selected. -/

theorem masked_I (op : BitVec 8) (imm24 : BitVec 24) : (op ++ imm24) &&& 0xFF000000#32 = op ++ 0#24 := by
  change (op ++ imm24) &&& (BitVec.allOnes 8 ++ 0#24) = _
  simp only [BitVec.and_append, BitVec.and_zero, BitVec.and_allOnes]

theorem masked_H (op : BitVec 8) (imm16 : BitVec 16) :
    (op ++ ((0#8 ++ imm16 : BitVec 24))) &&& 0xFFFF0000#32 = op ++ 0#24 := by
  change (op ++ (0#8 ++ imm16 : BitVec 24)) &&& (BitVec.allOnes 8 ++ (BitVec.allOnes 8 ++ 0#16 : BitVec 24)) = _
  simp only [BitVec.and_append, BitVec.and_zero, BitVec.and_allOnes]
  rfl

theorem masked_R (op : BitVec 8) (r : BitVec 4) :
    (op ++ ((r ++ 0#20 : BitVec 24))) &&& 0xFF0FFFFF#32 = op ++ 0#24 := by
  change (op ++ (r ++ 0#20 : BitVec 24)) &&& (BitVec.allOnes 8 ++ (0#4 ++ BitVec.allOnes 20 : BitVec 24)) = _
  simp only [BitVec.and_append, BitVec.and_zero, BitVec.and_allOnes]
  rfl

theorem masked_B (op imm8 : BitVec 8) :
    (op ++ ((0#16 ++ imm8 : BitVec 24))) &&& 0xFFFFFF00#32 = op ++ 0#24 := by
  change (op ++ (0#16 ++ imm8 : BitVec 24)) &&& (BitVec.allOnes 8 ++ (BitVec.allOnes 16 ++ 0#8 : BitVec 24)) = _
  simp only [BitVec.and_append, BitVec.and_zero, BitVec.and_allOnes]
  rfl

theorem masked_X (op : BitVec 8) (x : BitVec 4) :
    (op ++ ((0#20 ++ x : BitVec 24))) &&& 0xFFFFFFF0#32 = op ++ 0#24 := by
  change (op ++ (0#20 ++ x : BitVec 24)) &&& (BitVec.allOnes 8 ++ (BitVec.allOnes 20 ++ 0#4 : BitVec 24)) = _
  simp only [BitVec.and_append, BitVec.and_zero, BitVec.and_allOnes]
  rfl

theorem masked_L (op : BitVec 8) (a b : BitVec 4) :
    (op ++ ((0#16 ++ a ++ b : BitVec 24))) &&& 0xFFFFFF00#32 = op ++ 0#24 := by
  change (op ++ (0#16 ++ a ++ b : BitVec 24)) &&&
    (BitVec.allOnes 8 ++ (BitVec.allOnes 16 ++ 0#4 ++ 0#4 : BitVec 24)) = _
  simp only [BitVec.and_append, BitVec.and_zero, BitVec.and_allOnes]
  rfl

theorem masked_U (op : BitVec 8) (thi tlo : BitVec 2) (umask : BitVec 8) :
    (op ++ ((0#12 ++ thi ++ tlo ++ umask : BitVec 24))) &&& 0xFFFFF000#32 = op ++ 0#24 := by
  change (op ++ (0#12 ++ thi ++ tlo ++ umask : BitVec 24)) &&&
    (BitVec.allOnes 8 ++ (BitVec.allOnes 12 ++ 0#2 ++ 0#2 ++ 0#8 : BitVec 24)) = _
  simp only [BitVec.and_append, BitVec.and_zero, BitVec.and_allOnes]
  rfl

/-! One lemma per command. -/

theorem EncodesTableRow.lda (imm24 : BitVec 24) : EncodesTableRow.Statement (.lda imm24) :=
  masked_I 0x01#8 imm24

theorem EncodesTableRow.ldp (imm24 : BitVec 24) : EncodesTableRow.Statement (.ldp imm24) :=
  masked_I 0x02#8 imm24

theorem EncodesTableRow.mvp : EncodesTableRow.Statement .mvp := rfl

theorem EncodesTableRow.kset (r : BitVec 4) (imm20 : BitVec 20) : EncodesTableRow.Statement (.kset r imm20) :=
  masked_I 0x10#8 (r ++ imm20)

theorem EncodesTableRow.kclr : EncodesTableRow.Statement .kclr := rfl

theorem EncodesTableRow.seedb (imm8 : BitVec 8) : EncodesTableRow.Statement (.seedb imm8) :=
  masked_B 0x12#8 imm8

theorem EncodesTableRow.seedc : EncodesTableRow.Statement .seedc := rfl

theorem EncodesTableRow.kgen : EncodesTableRow.Statement .kgen := rfl

theorem EncodesTableRow.xork (r : BitVec 4) : EncodesTableRow.Statement (.xork r) :=
  masked_R 0x20#8 r

theorem EncodesTableRow.subf : EncodesTableRow.Statement .subf := rfl

theorem EncodesTableRow.subi : EncodesTableRow.Statement .subi := rfl

theorem EncodesTableRow.perm : EncodesTableRow.Statement .perm := rfl

theorem EncodesTableRow.enc : EncodesTableRow.Statement .enc := rfl

theorem EncodesTableRow.dec : EncodesTableRow.Statement .dec := rfl

theorem EncodesTableRow.latb : EncodesTableRow.Statement .latb := rfl

theorem EncodesTableRow.apxp (imm16 : BitVec 16) : EncodesTableRow.Statement (.apxp imm16) :=
  masked_H 0x40#8 imm16

theorem EncodesTableRow.apxu (thi : BitVec 2) (tlo : BitVec 2) (umask : BitVec 8) : EncodesTableRow.Statement (.apxu thi tlo umask) :=
  masked_U 0x41#8 thi tlo umask

theorem EncodesTableRow.rinit : EncodesTableRow.Statement .rinit := rfl

theorem EncodesTableRow.smp : EncodesTableRow.Statement .smp := rfl

theorem EncodesTableRow.recov : EncodesTableRow.Statement .recov := rfl

theorem EncodesTableRow.rda : EncodesTableRow.Statement .rda := rfl

theorem EncodesTableRow.rdp : EncodesTableRow.Statement .rdp := rfl

theorem EncodesTableRow.rdk (r : BitVec 4) : EncodesTableRow.Statement (.rdk r) :=
  masked_R 0x82#8 r

theorem EncodesTableRow.rdst : EncodesTableRow.Statement .rdst := rfl

theorem EncodesTableRow.rdsf (x : BitVec 4) : EncodesTableRow.Statement (.rdsf x) :=
  masked_X 0x84#8 x

theorem EncodesTableRow.rdsi (x : BitVec 4) : EncodesTableRow.Statement (.rdsi x) :=
  masked_X 0x85#8 x

theorem EncodesTableRow.rdpb (x : BitVec 4) : EncodesTableRow.Statement (.rdpb x) :=
  masked_X 0x86#8 x

theorem EncodesTableRow.rdlat (a : BitVec 4) (b : BitVec 4) : EncodesTableRow.Statement (.rdlat a b) :=
  masked_L 0x87#8 a b

theorem EncodesTableRow.rdcnt (imm8 : BitVec 8) : EncodesTableRow.Statement (.rdcnt imm8) :=
  masked_B 0x88#8 imm8

theorem EncodesTableRow.rdn : EncodesTableRow.Statement .rdn := rfl

theorem EncodesTableRow.rdcand : EncodesTableRow.Statement .rdcand := rfl

theorem EncodesTableRow.rddev (imm8 : BitVec 8) : EncodesTableRow.Statement (.rddev imm8) :=
  masked_B 0x8B#8 imm8

theorem EncodesTableRow.rdapx : EncodesTableRow.Statement .rdapx := rfl

end Sys2Proof.Laws
end

