-- ==== Sys2Proof/Tests/Slice0.lean ====
section
/-! SUPPORT. The model's own tests. Words and expected values are those of the spec's encodings, examples and test
vectors (named in each comment) or computed by hand from a rule. Values that depend on the tables use the default
instantiation (10_state.md R39). The second half shows, for each obligation with hypotheses, operands and states that
meet them. -/
namespace Sys2Proof.Tests
open Sys2Proof.Machine Sys2Proof.Claims

/-! ## Helpers -/

/-- The state a command leaves. -/
def left (r : Result) : State :=
  match r with
  | .next t => t
  | .fault _ => State.reset
  | .refused _ => State.reset

/-- The last response of a command. -/
def reply (r : Result) : Option Response := (left r).output.getLast?

/-- The default tables with a `HASH` that reads its last ten bytes as a big-endian number, so that a subkey shows
which seed bytes were hashed and in which order. -/
def cfg : Config :=
  Config.defaultTables fun bytes => BitVec.ofNat 80 (bytes.foldl (fun n b => 256 * n + b.toNat) 0)

/-- Key Ka of the vectors. -/
def keyA : Vector Block 5 := #v[0x1A2B, 0x3C4D, 0x5E6F, 0x7081, 0x9234]

/-- From reset with key Ka loaded. -/
def keyed : State := { State.reset with k := keyA, kv := Vector.replicate 5 true }

/-- From reset with all subkeys but the fifth present (V-CI-4). -/
def partKeyed : State :=
  { State.reset with k := #v[0x1111, 0x2222, 0x3333, 0x4444, 0], kv := #v[true, true, true, true, false] }

/-- From reset with the seed bytes 0, 1, 2, ... of which `n` are valid. -/
def seeded (n : BitVec 7) : State :=
  { State.reset with seed := tabulate fun i => BitVec.ofNat 8 i.val, seedLen := n }

/-- From reset with this sample count and every counter at this value. -/
def counted (n count : Word) : State := { State.reset with n := n, cnt := Vector.replicate 256 count }

/-- From reset with the reference approximation (46_recovery.md R194). -/
def approximated : State := { State.reset with pmask := 0x0B00, thi := 2, tlo := 0, umask := 0x55 }

/-- A table that is a bijection and no involution: the bits move up one place. -/
def rotation : Table := Vector.ofFn fun i => BitVec.ofNat 4 (i.val + 1)

/-! ## Decoding: words written out from 30_encoding.md R81 to R90 -/

theorem test_decode_moves :
    decode 0x01001234 = .command (.lda 0x001234) ∧ decode 0x01FFFFFF = .command (.lda 0xFFFFFF) ∧
    decode 0x02000800 = .command (.ldp 0x000800) ∧ decode 0x03000000 = .command .mvp ∧
    decode 0x80000000 = .command .rda ∧ decode 0x81000000 = .command .rdp ∧ decode 0x83000000 = .command .rdst := by
  decide

theorem test_decode_key :
    decode 0x10509234 = .command (.kset 5 0x09234) ∧ decode 0x101FFFFF = .command (.kset 1 0xFFFFF) ∧
    decode 0x11000000 = .command .kclr ∧ decode 0x120000AA = .command (.seedb 0xAA) ∧
    decode 0x13000000 = .command .seedc ∧ decode 0x14000000 = .command .kgen ∧
    decode 0x82300000 = .command (.rdk 3) := by
  decide

theorem test_decode_cipher :
    decode 0x20100000 = .command (.xork 1) ∧ decode 0x20500000 = .command (.xork 5) ∧
    decode 0x24000000 = .command .enc ∧ decode 0x25000000 = .command .dec := by
  decide

theorem test_decode_substitution :
    decode 0x21000000 = .command .subf ∧ decode 0x22000000 = .command .subi ∧
    decode 0x84000003 = .command (.rdsf 3) ∧ decode 0x8500000E = .command (.rdsi 14) := by
  decide

theorem test_decode_permutation :
    decode 0x23000000 = .command .perm ∧ decode 0x8600000F = .command (.rdpb 15) := by
  decide

theorem test_decode_lat :
    decode 0x30000000 = .command .latb ∧ decode 0x870000B4 = .command (.rdlat 11 4) ∧
    decode 0x8700002E = .command (.rdlat 2 14) := by
  decide

theorem test_decode_recovery :
    decode 0x40000B00 = .command (.apxp 0x0B00) ∧ decode 0x41000855 = .command (.apxu 2 0 0x55) ∧
    decode 0x410003F0 = .command (.apxu 0 3 0xF0) ∧ decode 0x42000000 = .command .rinit ∧
    decode 0x43000000 = .command .smp ∧ decode 0x44000000 = .command .recov ∧
    decode 0x880000FF = .command (.rdcnt 0xFF) ∧ decode 0x89000000 = .command .rdn ∧
    decode 0x8A000000 = .command .rdcand ∧ decode 0x8B000024 = .command (.rddev 0x24) ∧
    decode 0x8C000000 = .command .rdapx := by
  decide

/-- V-EN-1, V-EN-2, V-KS-2, V-CI-5, V-RC-10. -/
theorem test_decode_illegal :
    decode 0x00000000 = .illegal .unknownOpcode ∧ decode 0xFFFFFFFF = .illegal .unknownOpcode ∧
    decode 0x15000000 = .illegal .unknownOpcode ∧ decode 0x8D000000 = .illegal .unknownOpcode ∧
    decode 0x24800000 = .illegal .reservedBits ∧ decode 0x12000100 = .illegal .reservedBits ∧
    decode 0x84000010 = .illegal .reservedBits ∧ decode 0x87000100 = .illegal .reservedBits ∧
    decode 0x40010000 = .illegal .reservedBits ∧ decode 0x41001855 = .illegal .reservedBits ∧
    decode 0x20100001 = .illegal .reservedBits ∧ decode 0x10000001 = .illegal .subkeyNumber ∧
    decode 0x10610000 = .illegal .subkeyNumber ∧ decode 0x20600000 = .illegal .subkeyNumber ∧
    decode 0x82000000 = .illegal .subkeyNumber ∧ decode 0x41000500 = .illegal .equalUnits := by
  decide

/-- The encoder on V-KS-1, V-RC-2 and the examples of 45_lat.md. -/
theorem test_encode :
    encode (.kset 5 0x9234) = 0x10509234 ∧ encode (.apxu 2 0 0x55) = 0x41000855 ∧
    encode (.rdlat 11 4) = 0x870000B4 ∧ encode (.xork 1) = 0x20100000 ∧ encode (.lda 0xFFFFFF) = 0x01FFFFFF := by
  decide

theorem test_decodeTableWord :
    decodeTableWord 32 0x10509234 = some (.kset 5 0x9234) ∧ decodeTableWord 32 0x10009234 = none ∧
    decodeTableWord 32 0x43000000 = some .smp := by
  decide

/-! ## WellFormed refuses what it must (30_encoding.md R92 (c), (d)) -/

theorem test_wellFormed_subkey :
    ¬WellFormed (.kset 0 1) ∧ ¬WellFormed (.kset 6 1) ∧ ¬WellFormed (.xork 0) ∧ ¬WellFormed (.xork 15) ∧
    ¬WellFormed (.rdk 6) ∧ WellFormed (.rdk 5) := by
  decide

theorem test_wellFormed_units : ¬WellFormed (.apxu 1 1 0) ∧ WellFormed (.apxu 1 0 0) := by
  decide

/-! ## The step -/

/-- The first instruction after reset: V-KS-1 line 1. -/
theorem test_step_kset :
    (left (step (State.reset.withFetchWord 32 0x10509234))).k.get 4 = 0x9234 ∧
    (left (step (State.reset.withFetchWord 32 0x10509234))).kv = #v[false, false, false, false, true] := by
  decide

/-- P5 lines 7 and 9: an illegal word is answered with code 5 and recorded. -/
theorem test_step_illegal :
    reply (step (State.reset.withFetchWord 32 0x10600001)) = some ⟨5, 0⟩ ∧
    (left (step (State.reset.withFetchWord 32 0x00000000))).err = 5 := by
  decide

/-- R260: a reset during a command gives no response and the reset values. -/
theorem test_step_reset_during :
    let t := left (step { keyed with a := 0x1234, err := 3, input := [.resetDuring 0x24000000, .reset] })
    t.a = 0 ∧ t.kv = State.reset.kv ∧ t.err = 0 ∧ t.output = [] ∧ t.input = [.reset] := by
  decide

/-- V-EN-3: `ERR` keeps the first failure. -/
theorem test_sticky :
    (left (exec .recov { State.reset with err := 2 })).err = 2 ∧
    reply (exec .recov { State.reset with err := 2 }) = some ⟨4, 0⟩ := by
  decide

/-! ## Operand moves and status (V-DR-1 to V-DR-5) -/

theorem test_lda :
    reply (exec (.lda 0x00FFFF) State.reset) = some ⟨0, 0xFFFF⟩ ∧ (left (exec (.lda 0xFFFF) State.reset)).a = 0xFFFF := by
  decide

theorem test_lda_out_of_range :
    reply (exec (.lda 0x010000) { State.reset with a := 0xFFFF }) = some ⟨1, 0⟩ ∧
    (left (exec (.lda 0x010000) { State.reset with a := 0xFFFF })).a = 0xFFFF := by
  decide

theorem test_ldp :
    reply (exec (.ldp 0x0800) State.reset) = some ⟨0, 0⟩ ∧ (left (exec (.ldp 0x0800) State.reset)).p = 0x0800 ∧
    reply (exec (.ldp 0x10000) State.reset) = some ⟨1, 0⟩ := by
  decide

theorem test_mvp :
    reply (exec .mvp { State.reset with a := 3 }) = some ⟨0, 0⟩ ∧ (left (exec .mvp { State.reset with a := 3 })).p = 3 := by
  decide

theorem test_rda : reply (exec .rda { State.reset with a := 0x343C, p := 1 }) = some ⟨0, 0x343C⟩ := by
  decide

theorem test_rdp : reply (exec .rdp { State.reset with a := 1, p := 0x0800 }) = some ⟨0, 0x0800⟩ := by
  decide

/-- V-DR-5, and V-CI-4 (four subkeys present, `ERR = 2`). -/
theorem test_rdst :
    reply (exec .rdst { keyed with latv := true, resv := true, err := 6, seedLen := 2 }) = some ⟨0, 0x0002067F⟩ ∧
    reply (exec .rdst { partKeyed with err := 2 }) = some ⟨0, 0x0000020F⟩ := by
  decide

/-! ## Substitution and permutation (V-SUB-1, V-SUB-2, V-PERM-1, V-PERM-4) -/

theorem test_subf :
    reply (execSubfWith cfg { State.reset with a := 0x1234 }) = some ⟨0, 0x4D12⟩ ∧
    (left (execSubfWith cfg { State.reset with a := 0xABCD })).a = 0x6C59 := by
  decide

theorem test_subi :
    reply (execSubiWith cfg { State.reset with a := 0x1234 }) = some ⟨0, 0x3481⟩ ∧
    (left (execSubiWith cfg { State.reset with a := 0xABCD })).a = 0x96B2 := by
  decide

theorem test_rdsf :
    reply (execRdsfWith cfg 3 State.reset) = some ⟨0, 1⟩ ∧ reply (execRdsfWith cfg 15 State.reset) = some ⟨0, 7⟩ := by
  decide

theorem test_rdsi :
    reply (execRdsiWith cfg 14 State.reset) = some ⟨0, 0⟩ ∧ reply (execRdsiWith cfg 0 State.reset) = some ⟨0, 0xE⟩ := by
  decide

theorem test_perm :
    reply (execPermWith cfg { State.reset with a := 0x1234 }) = some ⟨0, 0x016A⟩ ∧
    (left (execPermWith cfg { State.reset with a := 0xABCD })).a = 0xF3C5 := by
  decide

/-- R120: bit `i` of the input lands at bit `T[i]`, so the rotation moves bit 0 to bit 1 and bit 15 to bit 0. -/
theorem test_permute_direction : permute 0x0001 rotation = 0x0002 ∧ permute 0x8000 rotation = 0x0001 := by
  decide

theorem test_rdpb :
    reply (execRdpbWith cfg 1 State.reset) = some ⟨0, 4⟩ ∧ reply (execRdpbWith cfg 7 State.reset) = some ⟨0, 13⟩ := by
  decide

/-! ## Key schedule (V-KS-1 to V-KS-4, V-KS-7) -/

theorem test_kset_out_of_range :
    reply (exec (.kset 5 0x10000) keyed) = some ⟨2, 0⟩ ∧ (left (exec (.kset 5 0x10000) keyed)).k.get 4 = 0x9234 := by
  decide

theorem test_kclr :
    (left (exec .kclr keyed)).k = Vector.replicate 5 0 ∧ (left (exec .kclr keyed)).kv = Vector.replicate 5 false := by
  decide

/-- The 64th byte is accepted, the 65th fails. -/
theorem test_seedb :
    (left (exec (.seedb 0xAA) (seeded 63))).seed.get 63 = 0xAA ∧ (left (exec (.seedb 0xAA) (seeded 63))).seedLen = 64 ∧
    reply (exec (.seedb 0xAA) (seeded 64)) = some ⟨7, 0⟩ := by
  decide

theorem test_seedc : (left (exec .seedc (seeded 64))).seedLen = 0 := by
  decide

/-- Fifteen bytes are too few; the buffer is kept. -/
theorem test_kgen_short :
    reply (execKgenWith cfg (seeded 15)) = some ⟨3, 0⟩ ∧ (left (execKgenWith cfg (seeded 15))).seedLen = 15 := by
  decide

/-- The bytes 00 to 0F, hashed in push order; the digest is cut most significant first. -/
theorem test_kgen :
    (left (execKgenWith cfg (seeded 16))).k = #v[0x0607, 0x0809, 0x0A0B, 0x0C0D, 0x0E0F] ∧
    (left (execKgenWith cfg (seeded 16))).kv = Vector.replicate 5 true ∧
    (left (execKgenWith cfg (seeded 16))).seedLen = 0 := by
  decide

theorem test_expand :
    expand 0x0123456789ABCDEF0F1E = #v[0x0123, 0x4567, 0x89AB, 0xCDEF, 0x0F1E] := by
  decide

theorem test_rdk :
    reply (exec (.rdk 5) keyed) = some ⟨0, 0x9234⟩ ∧ reply (exec (.rdk 5) partKeyed) = some ⟨2, 0⟩ ∧
    reply (exec (.rdk 4) partKeyed) = some ⟨0, 0x4444⟩ := by
  decide

/-! ## Cipher (V-CI-1 to V-CI-5) -/

theorem test_xork :
    reply (exec (.xork 1) { keyed with a := 0xABCD }) = some ⟨0, 0xB1E6⟩ ∧
    reply (exec (.xork 4) { partKeyed with a := 0xAAAA }) = some ⟨0, 0xEEEE⟩ ∧
    reply (exec (.xork 5) partKeyed) = some ⟨2, 0⟩ := by
  decide

theorem test_enc :
    reply (execEncWith cfg { keyed with a := 0x1234 }) = some ⟨0, 0x343C⟩ ∧
    reply (execEncWith cfg { keyed with a := 0xABCD }) = some ⟨0, 0x1D52⟩ ∧
    reply (execEncWith cfg partKeyed) = some ⟨2, 0⟩ := by
  decide

theorem test_dec :
    reply (execDecWith cfg { keyed with a := 0x343C }) = some ⟨0, 0x1234⟩ ∧
    reply (execDecWith cfg { keyed with a := 0xDBC3 }) = some ⟨0, 0x0000⟩ ∧
    reply (execDecWith cfg partKeyed) = some ⟨2, 0⟩ := by
  decide

/-- V-CI-3: the all-zero key is a key. -/
theorem test_zero_key : encrypt cfg (Vector.replicate 5 0) 0x0001 = 0xB08B := by
  decide

/-! ## Linear Approximation Table (V-LAT-1, 45_lat.md R168) -/

/-- Rows 0, 1, 5 and F of the table of R168. -/
theorem test_lat_rows :
    (latTable SBox.defaultInstantiation).get 0 = #v[16, 8, 8, 8, 8, 8, 8, 8, 8, 8, 8, 8, 8, 8, 8, 8] ∧
    (latTable SBox.defaultInstantiation).get 1 = #v[8, 8, 6, 6, 8, 8, 6, 14, 10, 10, 8, 8, 10, 10, 8, 8] ∧
    (latTable SBox.defaultInstantiation).get 5 = #v[8, 6, 6, 8, 6, 8, 12, 10, 6, 8, 4, 10, 8, 6, 6, 8] ∧
    (latTable SBox.defaultInstantiation).get 15 = #v[8, 6, 4, 6, 6, 8, 10, 8, 8, 6, 12, 6, 6, 8, 10, 8] := by
  decide

theorem test_latb : (left (execLatbWith cfg State.reset)).latv = true := by
  decide

theorem test_rdlat :
    reply (exec (.rdlat 2 14) { State.reset with latv := true, lat := latTable SBox.defaultInstantiation }) =
      some ⟨0, 2⟩ ∧
    reply (exec (.rdlat 0 0) State.reset) = some ⟨6, 0⟩ := by
  decide

/-! ## Recovery engine (V-RC-1 to V-RC-11) -/

theorem test_apxp : (left (exec (.apxp 0x0B00) State.reset)).pmask = 0x0B00 := by
  decide

theorem test_apxu :
    (left (exec (.apxu 2 0 0x55) State.reset)).thi = 2 ∧ (left (exec (.apxu 2 0 0x55) State.reset)).tlo = 0 ∧
    (left (exec (.apxu 2 0 0x55) State.reset)).umask = 0x55 ∧
    reply (exec (.apxu 1 1 0) State.reset) = some ⟨5, 0⟩ := by
  decide

theorem test_rinit :
    (left (exec .rinit { counted 9 4 with cand := 7, resv := true })).cnt.get 0xFF = 0 ∧
    (left (exec .rinit { counted 9 4 with cand := 7, resv := true })).resv = false := by
  decide

/-- V-RC-2 and V-RC-5b. -/
theorem test_smp :
    let t := left (execSmpWith cfg { approximated with resv := true, cand := 9 })
    let u := left (execSmpWith cfg { State.reset with a := 0x4002, thi := 0, tlo := 3, umask := 0xF0 })
    t.n = 1 ∧ t.resv = false ∧ t.cand = 0 ∧ t.cnt.get 0x00 = 1 ∧ t.cnt.get 0x03 = 0 ∧ t.cnt.get 0x30 = 0 ∧
    t.cnt.get 0x33 = 1 ∧ u.cnt.get 0x00 = 0 ∧ u.cnt.get 0x2F = 0 ∧ u.cnt.get 0xC0 = 1 := by
  decide

/-- V-RC-5 and V-RC-11. -/
theorem test_smp_masks_and_capacity :
    (left (execSmpWith cfg { State.reset with pmask := 1, p := 1, a := 0x5555 })).cnt.get 0xFF = 0 ∧
    (left (execSmpWith cfg { State.reset with pmask := 1, p := 2, a := 0x5555 })).cnt.get 0xFF = 1 ∧
    reply (execSmpWith cfg (counted 0xFFFFFFFF 5)) = some ⟨7, 0⟩ := by
  decide +kernel

/-- R184: of two candidates of equal deviation the smaller is selected, and a counter below `N/2` counts as one above. -/
theorem test_recov :
    let s := counted 8 4
    reply (exec .recov { s with cnt := (s.cnt.set 0x59 1).set 0xA0 7 }) = some ⟨0, 0x59⟩ ∧
    reply (exec .recov { s with cnt := (s.cnt.set 0x59 2).set 0xA0 7 }) = some ⟨0, 0xA0⟩ := by
  decide +kernel

theorem test_recov_empty : reply (exec .recov State.reset) = some ⟨4, 0⟩ := by
  decide

theorem test_rdcnt : reply (exec (.rdcnt 0x24) { counted 4 2 with cnt := (counted 4 2).cnt.set 0x24 1 }) = some ⟨0, 1⟩ := by
  decide

theorem test_rdn : reply (exec .rdn (counted 0x2710 0)) = some ⟨0, 0x2710⟩ := by
  decide

theorem test_rdcand :
    reply (exec .rdcand { State.reset with cand := 0x59, resv := true }) = some ⟨0, 0x59⟩ ∧
    reply (exec .rdcand State.reset) = some ⟨6, 0⟩ := by
  decide

/-- R189's example (`N = 4`, `CNT = 1` gives 2) and V-RC-6 (`N = 10000`, `CNT = 5364` gives 728). -/
theorem test_rddev :
    reply (exec (.rddev 0x24) (counted 4 1)) = some ⟨0, 2⟩ ∧
    reply (exec (.rddev 0x24) (counted 10000 5364)) = some ⟨0, 728⟩ ∧
    reply (exec (.rddev 0) State.reset) = some ⟨4, 0⟩ := by
  decide

/-- No wrap-around at the largest counts (R189). -/
theorem test_rddev_large : reply (exec (.rddev 0) (counted 0xFFFFFFFF 0xFFFFFFFF)) = some ⟨0, 0xFFFFFFFF⟩ := by
  decide

theorem test_rdapx : reply (exec .rdapx approximated) = some ⟨0, 0x0B000855⟩ := by
  decide

/-- R176: the true partial subkey of Ka under the reference approximation is 0x24. -/
theorem test_truth : truth approximated.approximation 0x9234 = 0x24 := by
  decide

/-- R98 and R97 on P1's line 1. -/
theorem test_pseudo :
    expansion (.gensample 3) = [.lda 3, .mvp, .enc, .smp] ∧ assembly (.kset 1 6699) = "KSET 1, 6699" := by
  decide

/-! ## Witnesses: the hypotheses of the obligations can be met, clause by clause -/

theorem test_witness_DecodeEncodeRoundTrip :
    WellFormed (.kset 5 0xFFFFF) ∧ WellFormed (.xork 1) ∧ WellFormed (.apxu 3 0 0xFF) ∧ WellFormed (.lda 0xFFFFFF) := by
  decide

theorem test_witness_EncodeDecodeRoundTrip :
    decode 0x105FFFFF = .command (.kset 5 0xFFFFF) ∧ decode 0x01FFFFFF = .command (.lda 0xFFFFFF) := by
  decide

/-- An opcode outside the 33, and reserved bits, subkey numbers and units on both sides of their bounds. -/
theorem test_witness_EveryFormatReachesItsCommands :
    decode ((0x04 : BitVec 8) ++ (0 : BitVec 24)) = .illegal .unknownOpcode ∧
    decode ((0x10 : BitVec 8) ++ ((5 : BitVec 4) ++ (0xFFFFF : BitVec 20) : BitVec 24)) = .command (.kset 5 0xFFFFF) ∧
    decode ((0x10 : BitVec 8) ++ ((6 : BitVec 4) ++ (0 : BitVec 20) : BitVec 24)) = .illegal .subkeyNumber ∧
    decode ((0x10 : BitVec 8) ++ ((0 : BitVec 4) ++ (0 : BitVec 20) : BitVec 24)) = .illegal .subkeyNumber ∧
    decode ((0x25 : BitVec 8) ++ (0x800000 : BitVec 24)) = .illegal .reservedBits ∧
    decode ((0x25 : BitVec 8) ++ (0 : BitVec 24)) = .command .dec := by
  decide

theorem test_witness_WordsSelectTheirTableRow :
    0x10509234#32 &&& 0xFF000000#32 = 0x10000000#32 ∧ (0x10000000#32, 0xFF000000#32) ∈ rows ∧
    decode 0x10509234 = .command (.kset 5 0x9234) := by
  decide

theorem test_witness_StepRunsDecodedInstruction :
    let s : State := { State.reset with input := [.command 0x23000000, .reset] }
    s.input = .command 0x23000000 :: [.reset] ∧ decode 0x23000000 = .command .perm ∧ WellFormed (.rdk 5) := by
  decide

theorem test_witness_StepWithoutCommand :
    State.reset.input = [] ∧ ({ State.reset with input := [.reset] } : State).input = .reset :: [] ∧
    ({ State.reset with input := [.resetDuring 0] } : State).input = .resetDuring 0 :: [] := by
  decide

/-- A word that succeeds and words that fail, with `ERR` 0 and not. -/
theorem test_witness_EveryCommandAnswersOnce :
    reply (step { State.reset with input := [.command 0x80000000] }) = some ⟨0, 0⟩ ∧
    reply (step { State.reset with input := [.command 0x24000000] }) = some ⟨2, 0⟩ ∧
    reply (step { State.reset with input := [.command 0], err := 7 }) = some ⟨5, 0⟩ := by
  decide

theorem decode_zero_ne (i : Instr) : decode 0x00000000 ≠ .command i := by
  have h : decode 0x00000000 = .illegal .unknownOpcode := by decide
  rw [h]
  exact Decoded.noConfusion

/-- Each cause and its absence, at the bound; and a word that is no command. -/
theorem test_witness_FailureCausesExactly :
    codeOf (.lda 0xFFFF) State.reset = 0 ∧ codeOf (.ldp 0x10000) State.reset = 1 ∧
    codeOf (.kset 1 0x10000) State.reset = 2 ∧ codeOf (.rdk 5) partKeyed = 2 ∧ codeOf (.rdk 4) partKeyed = 0 ∧
    codeOf .enc partKeyed = 2 ∧ codeOf .dec keyed = 0 ∧ codeOf .kgen (seeded 15) = 3 ∧ codeOf .kgen (seeded 16) = 0 ∧
    codeOf .recov State.reset = 4 ∧ codeOf .recov (counted 1 0) = 0 ∧ codeOf (.rdlat 0 0) State.reset = 6 ∧
    codeOf (.seedb 0) (seeded 63) = 0 ∧ codeOf (.seedb 0) (seeded 64) = 7 ∧
    codeOf .smp (counted 0xFFFFFFFE 0) = 0 ∧ codeOf .smp (counted 0xFFFFFFFF 0) = 7 ∧
    ∀ i, decode 0x00000000 ≠ .command i := by
  refine ⟨?_, ?_, ?_, ?_, ?_, ?_, ?_, ?_, ?_, ?_, ?_, ?_, ?_, ?_, ?_, ?_, decode_zero_ne⟩ <;> decide

/-- A run with a failure, from `ERR` 0 and from another. -/
theorem test_witness_ErrRecordsFirstFailure :
    (run (words [0x80000000, 0x24000000, 0x44000000]) State.reset).err = 2 ∧ State.reset.err = 0 ∧
    ({ State.reset with err := 7 } : State).err ≠ 0 := by
  decide

/-- A state that meets the invariant, with a result selected, and a step from it. -/
theorem test_witness_EveryStepKeepsInvariant :
    ∃ s t : State, s.Inv ∧ s.resv = true ∧ s.n = 1 ∧ step s = .next t := by
  refine ⟨{ counted 1 1 with resv := true, seedLen := 64, err := 7, input := [.command 0x42000000] }, _, ?_, rfl, rfl, rfl⟩
  refine ⟨by decide, nofun, ?_, by decide, by simp, fun _ => ⟨by decide, by decide +kernel⟩, by decide⟩
  intro c
  simp [counted]

/-- Two different states that only unobservable contents tell apart. -/
theorem test_witness_UnspecifiedContentsUnobservable :
    SameButUnobservable State.reset { State.reset with
      k := Vector.replicate 5 0xFFFF, seed := Vector.replicate 64 0xFF, lat := Vector.replicate 16 (Vector.replicate 16 9) } ∧
    State.reset.seed ≠ Vector.replicate 64 0xFF := by
  refine ⟨⟨rfl, ?_, ?_, ?_⟩, by decide⟩
  · simp [State.reset]
  · simp [State.reset]
  · simp [State.reset]

theorem test_witness_WritersOfEachElement :
    ∃ t : State, exec (.lda 0xFFFF) State.reset = .next t ∧ t.a ≠ State.reset.a := by
  exact ⟨_, rfl, by decide⟩

theorem test_witness_ReadsChangeNothing : 0x80 ≤ (opcode .rda).toNat ∧ 0x80 ≤ (opcode (.rdlat 15 15)).toNat := by
  decide

theorem test_witness_CommandsThatWriteAReturnIt :
    opcode .mvp ∉ [0x01#8, 0x20#8, 0x21#8, 0x22#8, 0x23#8, 0x24#8, 0x25#8] ∧
    ∃ t : State, opcode (.lda 0xFFFF) ∈ [0x01#8, 0x20#8, 0x21#8, 0x22#8, 0x23#8, 0x24#8, 0x25#8] ∧
      exec (.lda 0xFFFF) State.reset = .next t ∧ t.output = State.reset.output ++ [⟨0, 0xFFFF⟩] := by
  exact ⟨by decide, _, by decide, rfl, by decide⟩

theorem test_witness_LdaLoadsBlock_LdpLoadsPlaintext :
    (0xFFFF : BitVec 24).toNat ≤ 0xFFFF ∧ 0xFFFF < (0x10000 : BitVec 24).toNat := by
  decide

/-- A bijection that is no involution, and the default table. -/
theorem test_witness_PermuteSendsBits :
    Function.Bijective (fun i : Fin 16 => (rotation.get i).toFin) ∧
    Function.Bijective (fun i : Fin 16 => (PBox.defaultInstantiation.table.get i).toFin) := by
  decide

theorem test_witness_PermutationLaws :
    PBox.defaultInstantiation.table.get (0 : Nibble).toFin = 0 ∧
    PBox.defaultInstantiation.table.get (15 : Nibble).toFin = 15 := by
  decide

theorem test_witness_PermMovesBits :
    State.reset.a = 0x0000 ∧ ({ State.reset with a := 0xFFFF } : State).a = 0xFFFF := by
  decide

theorem test_witness_SeedbAppendsByte :
    (seeded 0).seedLen.toNat < 64 ∧ (seeded 63).seedLen.toNat < 64 ∧ (seeded 64).seedLen.toNat = 64 ∧
    ∃ t : State, exec .kclr (seeded 16) = .next t ∧ opcode .kclr ≠ 0x12 := by
  exact ⟨by decide, by decide, by decide, _, rfl, by decide⟩

theorem test_witness_SeedcKclrDiscard : 1 ≤ (1 : BitVec 4).toNat ∧ (5 : BitVec 4).toNat ≤ 5 := by
  decide

theorem test_witness_KgenDerivesKeyFromSeed :
    (seeded 15).seedLen.toNat < 16 ∧ 16 ≤ (seeded 16).seedLen.toNat ∧ (seeded 16).seedLen.toNat ≤ 64 ∧
    16 ≤ (seeded 64).seedLen.toNat ∧ (seeded 64).seedLen.toNat ≤ 64 := by
  decide

theorem test_witness_KsetLoadsSubkey :
    (5 : BitVec 4).toNat = (4 : Fin 5).val + 1 ∧ (0xFFFF : BitVec 20).toNat ≤ 0xFFFF ∧
    (1 ≤ (1 : BitVec 4).toNat ∧ (1 : BitVec 4).toNat ≤ 5) ∧ 0xFFFF < (0x10000 : BitVec 20).toNat ∧
    ¬(1 ≤ (0 : BitVec 4).toNat ∧ (0 : BitVec 4).toNat ≤ 5) ∧ ¬(1 ≤ (6 : BitVec 4).toNat ∧ (6 : BitVec 4).toNat ≤ 5) := by
  decide

theorem test_witness_RdkReadsPresentSubkey_XorkMixesSubkey :
    (4 : BitVec 4).toNat = (3 : Fin 5).val + 1 ∧ partKeyed.kv.get 3 = true ∧
    (5 : BitVec 4).toNat = (4 : Fin 5).val + 1 ∧ partKeyed.kv.get 4 = false ∧ ∀ i : Fin 5, keyed.kv.get i = true := by
  decide

theorem test_witness_EncRunsRoundsForward_DecRunsRoundsBackward_EncThenDecRestoresBlock :
    (∀ i : Fin 5, keyed.kv.get i = true) ∧ partKeyed.kv.get 4 = false ∧ State.reset.kv.get 0 = false := by
  decide

theorem test_witness_LatLaws_cases :
    (1 : Nibble) ≠ 0 ∧ parity ((1 : Nibble) &&& SBox.defaultInstantiation.inverse.get 0) = false ∧
    parity ((2 : Nibble) &&& SBox.defaultInstantiation.inverse.get 0) = true := by
  decide

theorem test_witness_LatbBuildsRdlatReads :
    ({ State.reset with latv := true } : State).latv = true ∧ State.reset.latv = false := by
  decide

theorem test_witness_ApxpApxuSetApproximation : (0 : BitVec 2) ≠ 3 ∧ (2 : BitVec 2) ≠ 0 := by
  decide

theorem test_witness_SmpCountsOneSample :
    State.reset.n.toNat < 2 ^ 32 - 1 ∧ (counted 0xFFFFFFFE 0).n.toNat < 2 ^ 32 - 1 ∧
    (counted 0xFFFFFFFF 0).n.toNat = 2 ^ 32 - 1 ∧ approximated.umask ≠ 0 ∧
    ∀ c : Fin 256, (approximated.cnt.get c).toNat ≤ approximated.n.toNat := by
  refine ⟨by decide, by decide, by decide, by decide, fun c => ?_⟩
  simp [approximated, State.reset]

theorem test_witness_SmpMovesHalfTheCounters :
    approximated.approximation.umask ≠ 0 ∧ State.reset.approximation.umask = 0 := by
  decide

/-- No sample; one sample with its counters in range; all counters equal. -/
theorem test_witness_RecovSelectsCandidate :
    State.reset.n = 0 ∧ (counted 1 1).n ≠ 0 ∧ (counted 1 1).n = 1 ∧
    (∀ x : Byte, ((counted 1 1).cnt.get x.toFin).toNat ≤ (counted 1 1).n.toNat) ∧
    ∀ x y : Byte, (counted 1 1).cnt.get x.toFin = (counted 1 1).cnt.get y.toFin := by
  refine ⟨by decide, by decide, by decide, ?_, ?_⟩
  · intro x
    simp [counted]
  · intro x y
    simp [counted]

theorem test_witness_RdcntRdnRdcandRead :
    ({ State.reset with resv := true } : State).resv = true ∧ State.reset.resv = false := by
  decide

/-- `CNT[c] = 0` and `CNT[c] = N`, `N` from 1 to its limit; and no sample. -/
theorem test_witness_RddevReturnsDeviation_ScoreIsExactFraction :
    (counted 1 0).n ≠ 0 ∧ ((counted 1 0).cnt.get 0).toNat ≤ (counted 1 0).n.toNat ∧
    ((counted 0xFFFFFFFF 0xFFFFFFFF).cnt.get 255).toNat ≤ (counted 0xFFFFFFFF 0xFFFFFFFF).n.toNat ∧
    State.reset.n = 0 := by
  decide

theorem test_witness_PolarityDoesNotMatter :
    ∀ c : Byte, ((Vector.replicate 256 (3 : Word)).get c.toFin).toNat ≤ (10 : Word).toNat ∧
      (Vector.replicate 256 (7 : Word)).get c.toFin = 10 - (Vector.replicate 256 (3 : Word)).get c.toFin := by
  intro c
  simp

/-- V-RC-12: two samples in the two orders; and a list that fills `N` to its limit. -/
theorem test_witness_SampleOrderDoesNotMatter :
    List.Perm [((0 : Block), (0 : Block)), (0x0800, 0x0A07)] [(0x0800, 0x0A07), (0, 0)] ∧
    State.reset.n.toNat + [((0 : Block), (0 : Block)), (0x0800, 0x0A07)].length < 2 ^ 32 ∧
    (counted 0xFFFFFFFE 0).n.toNat + [((0 : Block), (0 : Block))].length < 2 ^ 32 := by
  refine ⟨List.Perm.swap _ _ _, by decide, by decide⟩

theorem test_witness_RecoveryEngineIgnoresKey :
    opcode .smp ∈ [0x40#8, 0x41#8, 0x42#8, 0x43#8, 0x44#8, 0x88#8, 0x89#8, 0x8A#8, 0x8B#8, 0x8C#8] ∧
    opcode (.rddev 0xFF) ∈ [0x40#8, 0x41#8, 0x42#8, 0x43#8, 0x44#8, 0x88#8, 0x89#8, 0x8A#8, 0x8B#8, 0x8C#8] := by
  decide

theorem test_witness_PseudoInstructionsRenderCalls : (counted 0xFFFFFFFE 0).n.toNat < 2 ^ 32 - 1 := by
  decide

end Sys2Proof.Tests
end

section
/-! SUPPORT. The nibbles of a block (10_state.md R43): `nib` and `ofNibbles` undo each other, said once for the units
that work nibble by nibble. -/
namespace Sys2Proof.Machine

/-- Adjacent nibbles join to the slice they cover, so the four of them join to the whole block. -/
@[simp] theorem ofNibbles_nib (s : Block) : ofNibbles (nib s 3) (nib s 2) (nib s 1) (nib s 0) = s :=
  calc (s.extractLsb' 12 4 ++ s.extractLsb' 8 4 ++ s.extractLsb' 4 4 ++ s.extractLsb' 0 4 : BitVec (4 + 4 + 4 + 4))
    _ = s.extractLsb' 8 (4 + 4) ++ s.extractLsb' 4 4 ++ s.extractLsb' 0 4 := by
      rw [BitVec.extractLsb'_append_extractLsb'_eq_extractLsb' (show 12 = 8 + 4 from rfl)]
    _ = s.extractLsb' 4 (4 + 4 + 4) ++ s.extractLsb' 0 4 := by
      rw [BitVec.extractLsb'_append_extractLsb'_eq_extractLsb' (show 8 = 4 + 4 from rfl)]
    _ = s.extractLsb' 0 16 := BitVec.extractLsb'_append_extractLsb'_eq_extractLsb' rfl
    _ = s := BitVec.extractLsb'_eq_self

section
variable (n3 n2 n1 n0 : Nibble)

/-! Nibble `j` of a concatenation: drop the `j` nibbles below it, then read the last one that is left. -/

@[simp] theorem nib_zero_ofNibbles : nib (ofNibbles n3 n2 n1 n0) 0 = n0 :=
  BitVec.extractLsb'_append_eq_right

@[simp] theorem nib_one_ofNibbles : nib (ofNibbles n3 n2 n1 n0) 1 = n1 :=
  calc (n3 ++ n2 ++ n1 ++ n0).extractLsb' 4 4
    _ = (n3 ++ n2 ++ n1).extractLsb' 0 4 := BitVec.extractLsb'_append_eq_of_le (by decide)
    _ = n1 := BitVec.extractLsb'_append_eq_right

@[simp] theorem nib_two_ofNibbles : nib (ofNibbles n3 n2 n1 n0) 2 = n2 :=
  calc (n3 ++ n2 ++ n1 ++ n0).extractLsb' 8 4
    _ = (n3 ++ n2 ++ n1).extractLsb' 4 4 := BitVec.extractLsb'_append_eq_of_le (by decide)
    _ = (n3 ++ n2).extractLsb' 0 4 := BitVec.extractLsb'_append_eq_of_le (by decide)
    _ = n2 := BitVec.extractLsb'_append_eq_right

@[simp] theorem nib_three_ofNibbles : nib (ofNibbles n3 n2 n1 n0) 3 = n3 :=
  calc (n3 ++ n2 ++ n1 ++ n0).extractLsb' 12 4
    _ = (n3 ++ n2 ++ n1).extractLsb' 8 4 := BitVec.extractLsb'_append_eq_of_le (by decide)
    _ = (n3 ++ n2).extractLsb' 4 4 := BitVec.extractLsb'_append_eq_of_le (by decide)
    _ = n3 := BitVec.extractLsb'_append_eq_left

end

/-- Settles O24: the two halves of R43 are the two round trips between a block and its nibbles. -/
theorem nibbleComposition : Obligations.NibbleComposition :=
  ⟨ofNibbles_nib, fun n3 n2 n1 n0 =>
    ⟨nib_three_ofNibbles n3 n2 n1 n0, nib_two_ofNibbles n3 n2 n1 n0, nib_one_ofNibbles n3 n2 n1 n0,
      nib_zero_ofNibbles n3 n2 n1 n0⟩⟩

end Sys2Proof.Machine
end

section
/-! SUPPORT. What the decoder reads from the word of an opcode and the fields of its format (30_encoding.md R80 to R90),
and what the step does with it. -/
namespace Sys2Proof.Machine
open Sys2Proof.Claims

/-! ### A presented word -/

/-- A word is its opcode and its operand field (R80). -/
@[simp] theorem decode_append (op : BitVec 8) (o : BitVec 24) : decode (op ++ o) = decodeFields op o := by
  rw [decode, show (op ++ o).extractLsb' 24 8 = op from BitVec.extractLsb'_append_eq_left,
    show (op ++ o).extractLsb' 0 24 = o from BitVec.extractLsb'_append_eq_right]

/-- What the core does in `s` with what the decoder answered: the command, or the failure of an illegal word (R92). -/
def handleDecoded (d : Decoded) (s : State) : Result :=
  match d with
  | .command i => exec i s
  | .illegal _ => failsWith 5 s

@[simp] theorem handleDecoded_command (i : Instr) (s : State) : handleDecoded (.command i) s = exec i s := rfl

@[simp] theorem handleDecoded_illegal (why : IllegalWord) (s : State) :
    handleDecoded (.illegal why) s = failsWith 5 s := rfl

/-- A condition of the decoder decides between what its two answers do. -/
@[simp] theorem handleDecoded_ite (c : Prop) [Decidable c] (d e : Decoded) (s : State) :
    handleDecoded (if c then d else e) s = if c then handleDecoded d s else handleDecoded e s :=
  apply_ite (handleDecoded · s) c d e

/-- The step on a presented word takes it off the port and acts on what the decoder answers. -/
theorem onWord_eq_handleDecoded (w : Word) (s : State) : onWord w s = handleDecoded (decode w) s := by
  change step (s.present (.command w)) = _
  simp only [step, nextEvent_present]
  cases decode w <;> rfl

/-- The same, for a word given by its opcode and operand field. -/
theorem onWord_append (op : BitVec 8) (o : BitVec 24) (s : State) :
    onWord (op ++ o) s = handleDecoded (decodeFields op o) s := by
  rw [onWord_eq_handleDecoded, decode_append]

/-! ### The operand field, format by format (R83 to R89) -/

theorem legalSubkey_iff (r : BitVec 4) : legalSubkey r = true ↔ 1 ≤ r.toNat ∧ r.toNat ≤ 5 := decide_eq_true_iff

theorem distinctUnits_iff (thi tlo : BitVec 2) : distinctUnits thi tlo = true ↔ thi ≠ tlo := decide_eq_true_iff

theorem decodeH_append (i : BitVec 16 → Instr) (z : BitVec 8) (imm16 : BitVec 16) :
    decodeH i (z ++ imm16) = if z = 0#8 then .command (i imm16) else .illegal .reservedBits := by
  have hz : (z ++ imm16).extractLsb' 16 8 = z := BitVec.extractLsb'_append_eq_left
  have himm : (z ++ imm16).extractLsb' 0 16 = imm16 := BitVec.extractLsb'_append_eq_right
  rw [decodeH, hz, himm]

theorem decodeK_append (i : BitVec 4 → BitVec 20 → Instr) (r : BitVec 4) (imm20 : BitVec 20) :
    decodeK i (r ++ imm20) = if legalSubkey r then .command (i r imm20) else .illegal .subkeyNumber := by
  have hr : (r ++ imm20).extractLsb' 20 4 = r := BitVec.extractLsb'_append_eq_left
  have himm : (r ++ imm20).extractLsb' 0 20 = imm20 := BitVec.extractLsb'_append_eq_right
  rw [decodeK, hr, himm]

theorem decodeR_append (i : BitVec 4 → Instr) (r : BitVec 4) (z : BitVec 20) :
    decodeR i (r ++ z) =
      if z = 0#20 then if legalSubkey r then .command (i r) else .illegal .subkeyNumber
      else .illegal .reservedBits := by
  have hr : (r ++ z).extractLsb' 20 4 = r := BitVec.extractLsb'_append_eq_left
  have hz : (r ++ z).extractLsb' 0 20 = z := BitVec.extractLsb'_append_eq_right
  rw [decodeR, hr, hz]

theorem decodeB_append (i : Byte → Instr) (z : BitVec 16) (imm8 : Byte) :
    decodeB i (z ++ imm8) = if z = 0#16 then .command (i imm8) else .illegal .reservedBits := by
  have hz : (z ++ imm8).extractLsb' 8 16 = z := BitVec.extractLsb'_append_eq_left
  have himm : (z ++ imm8).extractLsb' 0 8 = imm8 := BitVec.extractLsb'_append_eq_right
  rw [decodeB, hz, himm]

theorem decodeX_append (i : Nibble → Instr) (z : BitVec 20) (x : Nibble) :
    decodeX i (z ++ x) = if z = 0#20 then .command (i x) else .illegal .reservedBits := by
  have hz : (z ++ x).extractLsb' 4 20 = z := BitVec.extractLsb'_append_eq_left
  have hx : (z ++ x).extractLsb' 0 4 = x := BitVec.extractLsb'_append_eq_right
  rw [decodeX, hz, hx]

theorem decodeL_append (i : Nibble → Nibble → Instr) (z : BitVec 16) (a b : Nibble) :
    decodeL i (z ++ a ++ b) = if z = 0#16 then .command (i a b) else .illegal .reservedBits := by
  have hz : (z ++ a ++ b).extractLsb' 8 16 = z :=
    calc (z ++ a ++ b).extractLsb' 8 16
      _ = (z ++ a).extractLsb' 4 16 := BitVec.extractLsb'_append_eq_of_le (by decide)
      _ = z := BitVec.extractLsb'_append_eq_left
  have ha : (z ++ a ++ b).extractLsb' 4 4 = a :=
    calc (z ++ a ++ b).extractLsb' 4 4
      _ = (z ++ a).extractLsb' 0 4 := BitVec.extractLsb'_append_eq_of_le (by decide)
      _ = a := BitVec.extractLsb'_append_eq_right
  have hb : (z ++ a ++ b).extractLsb' 0 4 = b := BitVec.extractLsb'_append_eq_right
  rw [decodeL, hz, ha, hb]

theorem decodeU_append (i : BitVec 2 → BitVec 2 → Byte → Instr) (z : BitVec 12) (thi tlo : BitVec 2)
    (umask : Byte) :
    decodeU i (z ++ thi ++ tlo ++ umask) =
      if z = 0#12 then if distinctUnits thi tlo then .command (i thi tlo umask) else .illegal .equalUnits
      else .illegal .reservedBits := by
  have hz : (z ++ thi ++ tlo ++ umask).extractLsb' 12 12 = z :=
    calc (z ++ thi ++ tlo ++ umask).extractLsb' 12 12
      _ = (z ++ thi ++ tlo).extractLsb' 4 12 := BitVec.extractLsb'_append_eq_of_le (by decide)
      _ = (z ++ thi).extractLsb' 2 12 := BitVec.extractLsb'_append_eq_of_le (by decide)
      _ = z := BitVec.extractLsb'_append_eq_left
  have hthi : (z ++ thi ++ tlo ++ umask).extractLsb' 10 2 = thi :=
    calc (z ++ thi ++ tlo ++ umask).extractLsb' 10 2
      _ = (z ++ thi ++ tlo).extractLsb' 2 2 := BitVec.extractLsb'_append_eq_of_le (by decide)
      _ = (z ++ thi).extractLsb' 0 2 := BitVec.extractLsb'_append_eq_of_le (by decide)
      _ = thi := BitVec.extractLsb'_append_eq_right
  have htlo : (z ++ thi ++ tlo ++ umask).extractLsb' 8 2 = tlo :=
    calc (z ++ thi ++ tlo ++ umask).extractLsb' 8 2
      _ = (z ++ thi ++ tlo).extractLsb' 0 2 := BitVec.extractLsb'_append_eq_of_le (by decide)
      _ = tlo := BitVec.extractLsb'_append_eq_right
  have humask : (z ++ thi ++ tlo ++ umask).extractLsb' 0 8 = umask := BitVec.extractLsb'_append_eq_right
  rw [decodeU, hz, hthi, htlo, humask]

/-! ### An opcode whose operand field is decoded by a format has the words of that format -/

section
variable {op : BitVec 8}

theorem formatZ_of_decodeFields {i : Instr} (h : decodeFields op = decodeZ i) : formatZ op i := by
  intro o s
  rw [onWord_append, h, decodeZ, handleDecoded_ite]
  rfl

theorem formatI_of_decodeFields {i : BitVec 24 → Instr} (h : decodeFields op = decodeI i) : formatI op i := by
  intro imm24 s
  rw [onWord_append, h, decodeI, handleDecoded_command]

theorem formatH_of_decodeFields {i : BitVec 16 → Instr} (h : decodeFields op = decodeH i) : formatH op i := by
  intro z imm16 s
  rw [onWord_append, h, decodeH_append, handleDecoded_ite]
  rfl

theorem formatK_of_decodeFields {i : BitVec 4 → BitVec 20 → Instr} (h : decodeFields op = decodeK i) :
    formatK op i := by
  intro r imm20 s
  rw [onWord_append, h, decodeK_append, handleDecoded_ite]
  simp only [legalSubkey_iff, handleDecoded_command, handleDecoded_illegal]

theorem formatR_of_decodeFields {i : BitVec 4 → Instr} (h : decodeFields op = decodeR i) : formatR op i := by
  intro r z s
  rw [onWord_append, h, decodeR_append, handleDecoded_ite, handleDecoded_ite]
  simp only [legalSubkey_iff, handleDecoded_command, handleDecoded_illegal, ite_and, BitVec.ofNat_eq_ofNat]

theorem formatB_of_decodeFields {i : Byte → Instr} (h : decodeFields op = decodeB i) : formatB op i := by
  intro z imm8 s
  rw [onWord_append, h, decodeB_append, handleDecoded_ite]
  rfl

theorem formatX_of_decodeFields {i : Nibble → Instr} (h : decodeFields op = decodeX i) : formatX op i := by
  intro z x s
  rw [onWord_append, h, decodeX_append, handleDecoded_ite]
  rfl

theorem formatL_of_decodeFields {i : Nibble → Nibble → Instr} (h : decodeFields op = decodeL i) : formatL op i := by
  intro z a b s
  rw [onWord_append, h, decodeL_append, handleDecoded_ite]
  rfl

theorem formatU_of_decodeFields {i : BitVec 2 → BitVec 2 → Byte → Instr} (h : decodeFields op = decodeU i) :
    formatU op i := by
  intro z thi tlo umask s
  rw [onWord_append, h, decodeU_append, handleDecoded_ite, handleDecoded_ite]
  simp only [distinctUnits_iff, handleDecoded_command, handleDecoded_illegal, ite_and, BitVec.ofNat_eq_ofNat]

end

/-! ### The opcode map (R90) -/

/-- The 33 opcodes of R90. -/
def knownOpcodes : List (BitVec 8) :=
  [0x01#8, 0x02#8, 0x03#8, 0x10#8, 0x11#8, 0x12#8, 0x13#8, 0x14#8, 0x20#8, 0x21#8, 0x22#8, 0x23#8, 0x24#8, 0x25#8,
    0x30#8, 0x40#8, 0x41#8, 0x42#8, 0x43#8, 0x44#8, 0x80#8, 0x81#8, 0x82#8, 0x83#8, 0x84#8, 0x85#8, 0x86#8, 0x87#8,
    0x88#8, 0x89#8, 0x8A#8, 0x8B#8, 0x8C#8]

/-- An opcode outside R90 makes every word illegal (R92 (a)): each other arm of the map stands for an opcode of R90. -/
theorem decodeFields_of_not_mem_knownOpcodes {op : BitVec 8} (hop : op ∉ knownOpcodes) (o : BitVec 24) :
    decodeFields op o = .illegal .unknownOpcode := by
  have hval : op.toNat ∉ knownOpcodes.map BitVec.toNat :=
    mt (List.mem_map_of_injective BitVec.toNat_injective).mp hop
  unfold decodeFields
  split
  case h_34 => rfl
  all_goals
    rename_i hnum
    exact absurd (hnum ▸ by decide) hval

/-- Settles O3: each opcode is mapped to its format's decoder, which reads the fields at their bit positions, and no
other opcode is mapped. -/
theorem everyFormatReachesItsCommands : Obligations.EveryFormatReachesItsCommands :=
  ⟨formatI_of_decodeFields rfl, formatI_of_decodeFields rfl, formatZ_of_decodeFields rfl,
    formatK_of_decodeFields rfl, formatZ_of_decodeFields rfl, formatB_of_decodeFields rfl,
    formatZ_of_decodeFields rfl, formatZ_of_decodeFields rfl,
    formatR_of_decodeFields rfl, formatZ_of_decodeFields rfl, formatZ_of_decodeFields rfl,
    formatZ_of_decodeFields rfl, formatZ_of_decodeFields rfl, formatZ_of_decodeFields rfl,
    formatZ_of_decodeFields rfl,
    formatH_of_decodeFields rfl, formatU_of_decodeFields rfl, formatZ_of_decodeFields rfl,
    formatZ_of_decodeFields rfl, formatZ_of_decodeFields rfl,
    formatZ_of_decodeFields rfl, formatZ_of_decodeFields rfl, formatR_of_decodeFields rfl,
    formatZ_of_decodeFields rfl, formatX_of_decodeFields rfl, formatX_of_decodeFields rfl,
    formatX_of_decodeFields rfl, formatL_of_decodeFields rfl, formatB_of_decodeFields rfl,
    formatZ_of_decodeFields rfl, formatZ_of_decodeFields rfl, formatB_of_decodeFields rfl,
    formatZ_of_decodeFields rfl,
    fun op o s hop => by rw [onWord_append, decodeFields_of_not_mem_knownOpcodes hop, handleDecoded_illegal]⟩

end Sys2Proof.Machine
end

section
/-! SUPPORT. Substitution, nibble by nibble (41_substitution.md R110 to R116): two tables that undo each other on every
nibble do so on every block, and the commands that use them inherit it. The reads of `PBOX` (42_permutation.md R123)
are reads of a table that undoes itself. -/
namespace Sys2Proof.Machine
open Sys2Proof.Claims

/-! ### The end of a command, in the words of the statements -/

theorem ok_eq_answers (data : Word) (s : State) : ok data s = .next (answers 0 data s) := rfl

theorem okA_eq_answers (v : Block) (s : State) :
    okA v s = .next (answers 0 (v.setWidth 32) { s with a := v }) := rfl

/-! ### Tables that undo each other (10_state.md R38) -/

theorem substitute_inverse_forward (sb : SBox) :
    Function.LeftInverse (substitute · sb.inverse) (substitute · sb.forward) := sb.inverse_forward

theorem substitute_forward_inverse (sb : SBox) :
    Function.LeftInverse (substitute · sb.forward) (substitute · sb.inverse) := sb.forward_inverse

theorem substitute_involution (pb : PBox) :
    Function.LeftInverse (substitute · pb.table) (substitute · pb.table) := pb.involution

/-! ### `apply_to_state` (R111, R112) -/

theorem nib_applyToState (T : Table) (s : Block) (j : BitVec 2) :
    nib (applyToState s T) j = substitute (nib s j) T := by
  have hj : j = 0 ∨ j = 1 ∨ j = 2 ∨ j = 3 := by revert j; decide
  obtain rfl | rfl | rfl | rfl := hj
  · exact nib_zero_ofNibbles ..
  · exact nib_one_ofNibbles ..
  · exact nib_two_ofNibbles ..
  · exact nib_three_ofNibbles ..

/-- Settles O25: each nibble is looked up in its place. -/
theorem applyToStateActsPerNibble : Obligations.ApplyToStateActsPerNibble := nib_applyToState

/-- The table that undoes another nibble by nibble undoes it on blocks, since nibble order is kept. -/
theorem applyToState_leftInverse {T U : Table} (hUT : Function.LeftInverse (substitute · U) (substitute · T)) :
    Function.LeftInverse (applyToState · U) (applyToState · T) := by
  intro s
  have hnib (j : BitVec 2) : substitute (nib (applyToState s T) j) U = nib s j := by
    rw [nib_applyToState]
    exact hUT (nib s j)
  calc applyToState (applyToState s T) U
    _ = ofNibbles (nib s 3) (nib s 2) (nib s 1) (nib s 0) := by rw [applyToState, hnib, hnib, hnib, hnib]
    _ = s := ofNibbles_nib s

theorem subInv_sub (sb : SBox) : Function.LeftInverse (subInv sb) (sub sb) :=
  applyToState_leftInverse (substitute_inverse_forward sb)

theorem sub_subInv (sb : SBox) : Function.LeftInverse (sub sb) (subInv sb) :=
  applyToState_leftInverse (substitute_forward_inverse sb)

/-- Settles O26: each map is a two-sided inverse of the other. -/
theorem substitutionLaws : Obligations.SubstitutionLaws := fun sb =>
  ⟨fun s => ⟨subInv_sub sb s, sub_subInv sb s⟩,
    ⟨(subInv_sub sb).injective, (sub_subInv sb).surjective⟩,
    ⟨(sub_subInv sb).injective, (subInv_sub sb).surjective⟩⟩

/-! ### `SUBF` and `SUBI` (R113, R114) -/

theorem exec_subf (s : State) : exec .subf s = okA (applyToState s.a Config.chip.sbox.forward) s := rfl

theorem exec_subi (s : State) : exec .subi s = okA (applyToState s.a Config.chip.sbox.inverse) s := rfl

/-- A command that applies the table `T` to `A`, followed by one that applies a table `U` that undoes `T`. -/
theorem exec_applyToState_then_undo {i i' : Instr} {T U : Table}
    (hi : ∀ s, exec i s = okA (applyToState s.a T) s) (hi' : ∀ s, exec i' s = okA (applyToState s.a U) s)
    (hUT : Function.LeftInverse (substitute · U) (substitute · T)) (s : State) :
    ∃ v : Block, exec i s = .next (answers 0 (v.setWidth 32) { s with a := v }) ∧
      (∀ j : BitVec 2, nib v j = T.get (nib s.a j).toFin) ∧
      exec i' { s with a := v } = .next (answers 0 (s.a.setWidth 32) s) := by
  have hback : applyToState (applyToState s.a T) U = s.a := applyToState_leftInverse hUT s.a
  refine ⟨applyToState s.a T, ?_, nib_applyToState T s.a, ?_⟩
  · rw [hi, okA_eq_answers]
  · rw [hi', hback, okA_eq_answers]

/-- Settles O27: the two commands apply the two tables of one substitution pair. -/
theorem subfSubiSubstituteEveryNibble : Obligations.SubfSubiSubstituteEveryNibble :=
  ⟨formatZ_of_decodeFields rfl, formatZ_of_decodeFields rfl,
    exec_applyToState_then_undo exec_subf exec_subi (substitute_inverse_forward _),
    exec_applyToState_then_undo exec_subi exec_subf (substitute_forward_inverse _),
    by decide, by decide, by decide⟩

/-! ### `RDSF`, `RDSI` and `RDPB` (R115, R116, R123) -/

theorem exec_rdsf (x : Nibble) (s : State) :
    exec (.rdsf x) s = ok ((substitute x Config.chip.sbox.forward).setWidth 32) s := rfl

theorem exec_rdsi (x : Nibble) (s : State) :
    exec (.rdsi x) s = ok ((substitute x Config.chip.sbox.inverse).setWidth 32) s := rfl

theorem exec_rdpb (x : Nibble) (s : State) :
    exec (.rdpb x) s = ok ((substitute x Config.chip.pbox.table).setWidth 32) s := rfl

/-- A command that reads the table `T`, followed by one that reads a table `U` that undoes `T` at what was read. -/
theorem exec_substitute_then_undo {i i' : Nibble → Instr} {T U : Table}
    (hi : ∀ x s, exec (i x) s = ok ((substitute x T).setWidth 32) s)
    (hi' : ∀ x s, exec (i' x) s = ok ((substitute x U).setWidth 32) s)
    (hUT : Function.LeftInverse (substitute · U) (substitute · T)) (s : State) (x : Nibble) :
    ∃ y : Nibble, exec (i x) s = .next (answers 0 (y.setWidth 32) s) ∧ y = T.get x.toFin ∧
      exec (i' y) s = .next (answers 0 (x.setWidth 32) s) := by
  have hback : substitute (substitute x T) U = x := hUT x
  refine ⟨substitute x T, ?_, rfl, ?_⟩
  · rw [hi, ok_eq_answers]
  · rw [hi', hback, ok_eq_answers]

/-- Settles O28: the two tables of the substitution pair undo each other, and `PBOX` undoes itself. -/
theorem tableReadsReturnEntries : Obligations.TableReadsReturnEntries :=
  ⟨formatX_of_decodeFields rfl, formatX_of_decodeFields rfl, formatX_of_decodeFields rfl,
    exec_substitute_then_undo exec_rdsf exec_rdsi (substitute_inverse_forward _),
    exec_substitute_then_undo exec_rdsi exec_rdsf (substitute_forward_inverse _),
    exec_substitute_then_undo exec_rdpb exec_rdpb (substitute_involution _),
    by decide⟩

end Sys2Proof.Machine
end

section
/-! SUPPORT. Permutation, bit by bit (42_permutation.md R120 to R122): a table sends each bit of a block to its own
position, so a table that undoes itself gives a permutation of blocks that undoes itself. -/
namespace Sys2Proof.Machine
open Sys2Proof.Claims

/-! ### `permute` (R120) -/

/-- Where bit `i` of the input lands. -/
def landing (T : Table) (i : Fin 16) : Fin 16 := (T.get i).toFin

theorem landing_val (T : Table) (i : Fin 16) : (landing T i).val = (T.get i).toNat := rfl

theorem getLsbD_foldl_placeBit (s : Block) (T : Table) (l : List (Fin 16)) (out : Block) (j : Nat) :
    (l.foldl (placeBit s T) out).getLsbD j =
      (out.getLsbD j || l.any fun i => s.getLsbD i && decide (j = landing T i)) := by
  induction l generalizing out with
  | nil => simp
  | cons i l ih => rw [List.foldl_cons, ih, getLsbD_placeBit, List.any_cons, Bool.or_assoc, landing_val]

/-- A bit of the result is set when a set bit of the input lands there. -/
theorem getLsbD_permute_iff (s : Block) (T : Table) (j : Fin 16) :
    (permute s T).getLsbD j = true ↔ ∃ i : Fin 16, s.getLsbD i = true ∧ j = landing T i := by
  rw [permute, getLsbD_foldl_placeBit]
  simp [Fin.ext_iff]

/-- No other bit lands where bit `i` does when the table is injective. -/
theorem getLsbD_permute_landing {T : Table} (hT : Function.Injective (landing T)) (s : Block) (i : Fin 16) :
    (permute s T).getLsbD (landing T i) = s.getLsbD i := by
  rw [Bool.eq_iff_iff, getLsbD_permute_iff]
  constructor
  · rintro ⟨i', hset, hland⟩
    rwa [hT hland]
  · exact fun hset => ⟨i, hset, rfl⟩

/-- Settles O29: the positions where the bits land are distinct, so each bit of the result comes from one bit. -/
theorem permuteSendsBits : Obligations.PermuteSendsBits :=
  fun _ s hT i => getLsbD_permute_landing hT.injective s i

/-! ### `Pm` (R121) -/

section
variable (pb : PBox)

theorem landing_involutive : Function.Involutive (landing pb.table) := fun i =>
  congrArg BitVec.toFin (pb.involution (BitVec.ofFin i))

/-- Where `permute` says where a bit lands, an involution says where it comes from as well. -/
theorem getLsbD_perm (s : Block) (i : Fin 16) : (perm pb s).getLsbD i = s.getLsbD (landing pb.table i) := by
  have hland := getLsbD_permute_landing (landing_involutive pb).injective s (landing pb.table i)
  rwa [landing_involutive pb i] at hland

theorem block_ext {x y : Block} (h : ∀ i : Fin 16, x.getLsbD i = y.getLsbD i) : x = y :=
  BitVec.eq_of_getLsbD_eq fun i hi => h ⟨i, hi⟩

theorem perm_involutive : Function.Involutive (perm pb) := fun s => block_ext fun i => by
  rw [getLsbD_perm, getLsbD_perm, landing_involutive pb i]

theorem perm_xor (x y : Block) : perm pb (x ^^^ y) = perm pb x ^^^ perm pb y := block_ext fun i => by
  simp only [BitVec.getLsbD_xor, getLsbD_perm]

/-- A block whose bits are all equal stays. -/
theorem perm_of_constant_bits {s : Block} {b : Bool} (h : ∀ i : Fin 16, s.getLsbD i = b) : perm pb s = s :=
  block_ext fun i => by rw [getLsbD_perm, h, h]

theorem perm_zero : perm pb 0 = 0 := perm_of_constant_bits pb (b := false) (by decide)

theorem perm_allOnes : perm pb 0xFFFF = 0xFFFF := perm_of_constant_bits pb (b := true) (by decide)

/-- The table maps the positions of the 1 bits of the result one to one onto those of the input. -/
theorem ones_perm (s : Block) : ones (perm pb s) = ones s :=
  Finset.card_bijective (landing pb.table) (landing_involutive pb).bijective fun i => by
    simp only [Finset.mem_filter_univ, getLsbD_perm]

theorem getLsbD_perm_of_fixed (s : Block) {i : Nibble} (hi : pb.table.get i.toFin = i) :
    (perm pb s).getLsbD i.toNat = s.getLsbD i.toNat := by
  have hfix : landing pb.table i.toFin = i.toFin := congrArg BitVec.toFin hi
  calc (perm pb s).getLsbD i.toFin
    _ = s.getLsbD (landing pb.table i.toFin) := getLsbD_perm pb s i.toFin
    _ = s.getLsbD i.toFin := by rw [hfix]

end

/-- Settles O30: every law follows from where each bit of the result comes from. -/
theorem permutationLaws : Obligations.PermutationLaws := fun pb =>
  ⟨perm_involutive pb, (perm_involutive pb).bijective, ones_perm pb, perm_xor pb, perm_zero pb, perm_allOnes pb,
    fun s _ hi => getLsbD_perm_of_fixed pb s hi, pb.involution⟩

/-! ### `PERM` (R122) -/

theorem exec_perm (s : State) : exec .perm s = okA (perm Config.chip.pbox s.a) s := rfl

theorem exec_perm_twice (s : State) :
    exec .perm { s with a := perm Config.chip.pbox s.a } = .next (answers 0 (s.a.setWidth 32) s) := by
  rw [exec_perm, perm_involutive, okA_eq_answers]

/-- Settles O31: `PERM` writes `Pm(A)` and answers it, so the laws of `Pm` are laws of the command. -/
theorem permMovesBits : Obligations.PermMovesBits := by
  refine ⟨formatZ_of_decodeFields rfl, fun s => ⟨perm Config.chip.pbox s.a, ?_, ?_, ?_, ?_, exec_perm_twice s⟩,
    by decide, by decide, by decide, by decide⟩
  · rw [exec_perm, okA_eq_answers]
  · exact getLsbD_permute_landing (landing_involutive _).injective s.a
  · intro hzero
    rw [hzero, perm_zero]
  · intro hones
    rw [hones, perm_allOnes]

end Sys2Proof.Machine
end

section
/-! SUPPORT. What a command can leave, said once for all 33 commands: either its writes and one response of code 0, or
the failed state (00_scope.md R8, 60_exceptions.md R230). -/
namespace Sys2Proof.Machine

/-- The writes of a command that succeeds, without its response: each rule's assignments to elements of 10_state.md R20.
`exec_endsIn` ties it to `exec`. -/
def written (i : Instr) (s : State) : State :=
  match i with
  | .lda imm24 => s.setA (imm24.setWidth 16)
  | .ldp imm24 => s.setP (imm24.setWidth 16)
  | .mvp => s.setP s.a
  | .kset r imm20 => (subkeyIndex r).elim s fun j => s.setKey j (imm20.setWidth 16)
  | .kclr => s.clearKeys
  | .seedb imm8 => s.pushSeed imm8
  | .seedc => s.dropSeed
  | .kgen => (s.setKeys (generateKey Config.chip s.seedBytes)).dropSeed
  | .xork r => (subkeyIndex r).elim s fun j => s.setA (s.a ^^^ s.k.get j)
  | .subf => s.setA (sub Config.chip.sbox s.a)
  | .subi => s.setA (subInv Config.chip.sbox s.a)
  | .perm => s.setA (perm Config.chip.pbox s.a)
  | .enc => s.setA (encrypt Config.chip s.k s.a)
  | .dec => s.setA (decrypt Config.chip s.k s.a)
  | .latb => s.setLat (latTable Config.chip.sbox)
  | .apxp imm16 => s.setPmask imm16
  | .apxu thi tlo umask => s.setTarget thi tlo umask
  | .rinit => s.setCounts (Vector.replicate 256 0#32) 0
  | .smp => s.setCounts (countSample Config.chip.sbox s.approximation s.p s.a s.cnt) (s.n + 1)
  | .recov => s.setResult (selectCandidate s.cnt s.n)
  | .rda | .rdp | .rdk _ | .rdst | .rdsf _ | .rdsi _ | .rdpb _ | .rdlat _ _ | .rdcnt _ | .rdn | .rdcand | .rddev _
  | .rdapx => s

/-- A command issued in `s` with this result succeeds and leaves `u` but for the response, or fails. -/
def EndsIn (s u : State) (r : Result) : Prop := (∃ data, r = ok data u) ∨ ∃ e, r = fail e s

section
variable {s u : State}

theorem EndsIn.ok {data : Word} : EndsIn s u (ok data u) := .inl ⟨data, rfl⟩

theorem EndsIn.fail {e : FailKind} : EndsIn s u (fail e s) := .inr ⟨e, rfl⟩

theorem EndsIn.ite {c : Prop} [Decidable c] {r r' : Result} (h : EndsIn s u r) (h' : EndsIn s u r') :
    EndsIn s u (if c then r else r') := by
  split
  · exact h
  · exact h'

end

/-- Every command succeeds with its writes or fails: at once, after one check, or after the check of a subkey number
and one more. -/
theorem exec_endsIn (i : Instr) (s : State) : EndsIn s (written i s) (exec i s) := by
  cases i with
  | mvp | kclr | seedc | subf | subi | perm | latb | apxp | rinit | rda | rdp | rdst | rdsf | rdsi | rdpb | rdcnt | rdn
  | rdapx => exact .ok
  | lda | ldp | enc | dec | apxu | rdlat | rdcand => exact .ite .ok .fail
  | seedb | kgen | smp | recov | rddev => exact .ite .fail .ok
  | kset r | xork r | rdk r =>
    simp only [exec, execKset, execXork, execRdk, written]
    cases subkeyIndex r with
    | none => exact .fail
    | some j => exact .ite .ok .fail

/-- The states a command can leave. -/
theorem exec_next {i : Instr} {s t : State} (h : exec i s = .next t) :
    (∃ data, t = (written i s).respond ⟨0, data⟩) ∨ ∃ e, t = s.failed e := by
  obtain ⟨data, hok⟩ | ⟨e, hfail⟩ := exec_endsIn i s
  · exact .inl ⟨data, ok_next (hok ▸ h)⟩
  · exact .inr ⟨e, fail_next (hfail ▸ h)⟩

end Sys2Proof.Machine
end

section
/-! SUPPORT. The key schedule (43_key_schedule.md R130 to R138): the seed buffer, the subkeys cut from a digest, and the
commands that load, discard and read subkeys. -/
namespace Sys2Proof.Machine
open Sys2Proof.Claims

/-! ### `expand` (R132) -/

/-- Adjacent slices join to the slice they cover, so the five subkeys join to the whole digest. -/
theorem expand_append (d : Digest) :
    ((expand d).get 0 ++ (expand d).get 1 ++ (expand d).get 2 ++ (expand d).get 3 ++ (expand d).get 4 :
      BitVec (16 + 16 + 16 + 16 + 16)) = d :=
  calc (d.extractLsb' 64 16 ++ d.extractLsb' 48 16 ++ d.extractLsb' 32 16 ++ d.extractLsb' 16 16 ++
        d.extractLsb' 0 16 : BitVec (16 + 16 + 16 + 16 + 16))
    _ = d.extractLsb' 48 (16 + 16) ++ d.extractLsb' 32 16 ++ d.extractLsb' 16 16 ++ d.extractLsb' 0 16 := by
      rw [BitVec.extractLsb'_append_extractLsb'_eq_extractLsb' (show 64 = 48 + 16 from rfl)]
    _ = d.extractLsb' 32 (16 + 16 + 16) ++ d.extractLsb' 16 16 ++ d.extractLsb' 0 16 := by
      rw [BitVec.extractLsb'_append_extractLsb'_eq_extractLsb' (show 48 = 32 + 16 from rfl)]
    _ = d.extractLsb' 16 (16 + 16 + 16 + 16) ++ d.extractLsb' 0 16 := by
      rw [BitVec.extractLsb'_append_extractLsb'_eq_extractLsb' (show 32 = 16 + 16 from rfl)]
    _ = d.extractLsb' 0 80 := BitVec.extractLsb'_append_extractLsb'_eq_extractLsb' rfl
    _ = d := BitVec.extractLsb'_eq_self

/-- Settles O32: the slices are adjacent and cover the digest. -/
theorem expandSlicesDigest : Obligations.ExpandSlicesDigest := ⟨expand_append, fun _ _ => rfl⟩

/-! ### `SEEDB` and the writers of the seed buffer (R133) -/

theorem get_setIfInBounds {α : Type} {n : Nat} (v : Vector α n) (m : Nat) (x : α) (j : Fin n) :
    (v.setIfInBounds m x).get j = if j.val = m then x else v.get j := by
  change (v.setIfInBounds m x)[j.val] = if j.val = m then x else v[j.val]
  simp only [Vector.getElem_setIfInBounds, eq_comm]

theorem pushSeed_seedLen_toNat {s : State} (h : s.seedLen.toNat < 64) (b : Byte) :
    (s.pushSeed b).seedLen.toNat = s.seedLen.toNat + 1 := by
  have hfits : s.seedLen.toNat + (1 : BitVec 7).toNat < 2 ^ 7 := Nat.lt_of_le_of_lt h (by decide)
  exact BitVec.toNat_add_of_lt hfits

theorem exec_seedb_of_lt {s : State} (h : s.seedLen.toNat < 64) (b : Byte) :
    exec (.seedb b) s = ok 0 (s.pushSeed b) :=
  if_neg fun hfull => absurd (congrArg BitVec.toNat hfull) (Nat.ne_of_lt h)

theorem exec_seedb_of_full {s : State} (h : s.seedLen.toNat = 64) (b : Byte) :
    exec (.seedb b) s = fail .capacity s :=
  if_pos (BitVec.eq_of_toNat_eq h)

/-- Of the writes of all commands, only those of `SEEDB` touch the seed bytes, and only those of `SEEDC` and `KGEN`
touch `SEEDLEN` besides. -/
theorem written_keeps_seed {i : Instr} (hi : opcode i ≠ 0x12) (s : State) :
    (written i s).seed = s.seed ∧ ((written i s).seedLen = s.seedLen ∨ i = .seedc ∨ i = .kgen) := by
  cases i with
  | seedb => exact absurd rfl hi
  | seedc => exact ⟨rfl, .inr (.inl rfl)⟩
  | kgen => exact ⟨rfl, .inr (.inr rfl)⟩
  | kset r | xork r =>
    simp only [written]
    cases subkeyIndex r with
    | none | some => exact ⟨rfl, .inl rfl⟩
  | _ => exact ⟨rfl, .inl rfl⟩

theorem exec_keeps_seed {i : Instr} {s t : State} (h : exec i s = .next t) (hi : opcode i ≠ 0x12) :
    t.seed = s.seed ∧ (t.seedLen = s.seedLen ∨ i = .seedc ∨ i = .kgen) := by
  obtain ⟨data, rfl⟩ | ⟨e, rfl⟩ := exec_next h
  · exact written_keeps_seed hi s
  · exact ⟨rfl, .inl rfl⟩

/-! ### `KGEN` (R135) -/

theorem exec_kgen_of_short {s : State} (h : s.seedLen.toNat < 16) : exec .kgen s = fail .entropyUnavailable s :=
  if_pos h

theorem exec_kgen_of_le {s : State} (h : 16 ≤ s.seedLen.toNat) :
    exec .kgen s = ok 0 (s.setKeys (generateKey Config.chip s.seedBytes)).dropSeed :=
  if_neg (Nat.not_lt.mpr h)

/-- A `KGEN` that fails keeps `SEEDLEN`, so one that changes it had at least 16 bytes. -/
theorem exec_seedLen_cases {i : Instr} {s t : State} (h : exec i s = .next t) (hi : opcode i ≠ 0x12) :
    t.seedLen = s.seedLen ∨ i = .seedc ∨ (i = .kgen ∧ 16 ≤ s.seedLen.toNat) := by
  obtain hkept | hseedc | rfl := (exec_keeps_seed h hi).2
  · exact .inl hkept
  · exact .inr (.inl hseedc)
  · obtain hshort | hlong := Nat.lt_or_ge s.seedLen.toNat 16
    · rw [exec_kgen_of_short hshort] at h
      exact .inl (fail_next h ▸ rfl)
    · exact .inr (.inr ⟨rfl, hlong⟩)

/-- Settles O33: below 64 bytes `SEEDB` pushes, and no other command pushes. -/
theorem seedbAppendsByte : Obligations.SeedbAppendsByte := by
  refine ⟨formatB_of_decodeFields rfl, fun s imm8 hlt => ⟨s.pushSeed imm8, ?_, rfl, ?_, ?_⟩, ?_, ?_,
    State.reset.pushSeed 0xAA, rfl, ?_⟩
  · rw [exec_seedb_of_lt hlt, ok_eq_answers]
  · exact pushSeed_seedLen_toNat hlt imm8
  · exact get_setIfInBounds s.seed s.seedLen.toNat imm8
  · intro s imm8 hfull
    exact exec_seedb_of_full hfull imm8
  · intro i s t h hi
    exact ⟨(exec_keeps_seed h hi).1, exec_seedLen_cases h hi⟩
  · have hstatus : (State.reset.pushSeed 0xAA).status = 0x00010000 := by decide
    rw [← hstatus, ← ok_eq_answers]
    rfl

/-- Settles O35: a successful `KGEN` leaves no seed bytes, so the next one is short of them. -/
theorem kgenDerivesKeyFromSeed : Obligations.KgenDerivesKeyFromSeed := by
  refine ⟨formatZ_of_decodeFields rfl, fun s hshort => exec_kgen_of_short hshort, fun s hlong _ =>
    ⟨(s.setKeys (generateKey Config.chip s.seedBytes)).dropSeed, ?_, rfl, ?_, ?_, ?_⟩⟩
  · rw [exec_kgen_of_le hlong, ok_eq_answers]
  · exact get_replicate true
  · exact expand_append (Config.chip.hash s.seedBytes)
  · have hempty : (answers 0 0 (s.setKeys (generateKey Config.chip s.seedBytes)).dropSeed).seedLen.toNat < 16 :=
      show (0 : BitVec 7).toNat < 16 by decide
    exact exec_kgen_of_short hempty

/-! ### Commands that name a subkey (R136, R138, 44_cipher.md R150) -/

theorem exists_fin_of_legal {r : BitVec 4} (hlo : 1 ≤ r.toNat) (hhi : r.toNat ≤ 5) :
    ∃ j : Fin 5, r.toNat = j.val + 1 :=
  ⟨⟨r.toNat - 1, by omega⟩, by simp only; omega⟩

theorem subkeyIndex_eq_none_of_not_legal {r : BitVec 4} (h : ¬(1 ≤ r.toNat ∧ r.toNat ≤ 5)) : subkeyIndex r = none :=
  dif_neg h

section
variable {r : BitVec 4} {j : Fin 5}

theorem exec_kset (hr : r.toNat = j.val + 1) (imm20 : BitVec 20) (s : State) :
    exec (.kset r imm20) s =
      if fits16 imm20 then ok 0 (s.setKey j (imm20.setWidth 16)) else fail .invalidKeyMaterial s := by
  simp only [exec, execKset, subkeyIndex_eq_some.mpr hr]

theorem exec_xork (hr : r.toNat = j.val + 1) (s : State) :
    exec (.xork r) s = if s.kv.get j then okA (s.a ^^^ s.k.get j) s else fail .invalidKeyMaterial s := by
  simp only [exec, execXork, subkeyIndex_eq_some.mpr hr]

theorem exec_rdk (hr : r.toNat = j.val + 1) (s : State) :
    exec (.rdk r) s = if s.kv.get j then ok ((s.k.get j).setWidth 32) s else fail .invalidKeyMaterial s := by
  simp only [exec, execRdk, subkeyIndex_eq_some.mpr hr]

theorem exec_kset_of_wide (hr : r.toNat = j.val + 1) {imm20 : BitVec 20} (hwide : 0xFFFF < imm20.toNat) (s : State) :
    exec (.kset r imm20) s = fail .invalidKeyMaterial s :=
  (exec_kset hr imm20 s).trans (if_neg (mt (fits16_iff imm20).mp (Nat.not_le.mpr hwide)))

theorem exec_kset_of_not_legal (hr : ¬(1 ≤ r.toNat ∧ r.toNat ≤ 5)) (imm20 : BitVec 20) (s : State) :
    exec (.kset r imm20) s = fail .illegalCommand s := by
  simp only [exec, execKset, subkeyIndex_eq_none_of_not_legal hr]

end

/-! ### Commands that miss a subkey (R137, R138, 44_cipher.md R150 to R152) -/

section
variable {s : State} {j : Fin 5}

theorem keyComplete_eq_false_of_absent (h : s.kv.get j = false) : s.keyComplete = false :=
  Bool.eq_false_iff.mpr fun hall => Bool.eq_false_iff.mp h ((keyComplete_iff s).mp hall j)

theorem exec_enc_of_absent (h : s.kv.get j = false) : exec .enc s = fail .invalidKeyMaterial s :=
  if_neg (Bool.eq_false_iff.mp (keyComplete_eq_false_of_absent h))

theorem exec_dec_of_absent (h : s.kv.get j = false) : exec .dec s = fail .invalidKeyMaterial s :=
  if_neg (Bool.eq_false_iff.mp (keyComplete_eq_false_of_absent h))

theorem exec_xork_of_absent {r : BitVec 4} (hr : r.toNat = j.val + 1) (h : s.kv.get j = false) :
    exec (.xork r) s = fail .invalidKeyMaterial s :=
  (exec_xork hr s).trans (if_neg (Bool.eq_false_iff.mp h))

theorem exec_rdk_of_absent {r : BitVec 4} (hr : r.toNat = j.val + 1) (h : s.kv.get j = false) :
    exec (.rdk r) s = fail .invalidKeyMaterial s :=
  (exec_rdk hr s).trans (if_neg (Bool.eq_false_iff.mp h))

end

/-- Settles O36: `KSET` writes at the one index its subkey number names. -/
theorem ksetLoadsSubkey : Obligations.KsetLoadsSubkey := by
  refine ⟨formatK_of_decodeFields rfl, fun s r imm20 i hr hfits => ⟨s.setKey i (imm20.setWidth 16), ?_, rfl, ?_, ?_⟩,
    ?_, ?_⟩
  · rw [exec_kset hr, if_pos ((fits16_iff imm20).mpr hfits), ok_eq_answers]
  · intro j
    rw [State.setKey_k, get_set]
    simp only [eq_comm]
  · intro j
    rw [State.setKey_kv, get_set]
    simp only [eq_comm]
  · intro s r imm20 hlo hhi hwide
    obtain ⟨j, hr⟩ := exists_fin_of_legal hlo hhi
    exact exec_kset_of_wide hr hwide s
  · intro s r imm20 hr
    exact exec_kset_of_not_legal hr imm20 s

/-- Settles O34: after `KCLR` every subkey is absent, so every command that needs one fails. -/
theorem seedcKclrDiscard : Obligations.SeedcKclrDiscard := by
  refine ⟨formatZ_of_decodeFields rfl, formatZ_of_decodeFields rfl, fun _ => rfl, fun s => ?_⟩
  have habsent (j : Fin 5) : s.clearKeys.kv.get j = false := get_replicate false j
  refine ⟨s.clearKeys, rfl, rfl, fun j => ⟨get_replicate 0x0000#16 j, habsent j⟩, exec_enc_of_absent (habsent 0),
    exec_dec_of_absent (habsent 0), fun r hlo hhi => ?_⟩
  obtain ⟨j, hr⟩ := exists_fin_of_legal hlo hhi
  exact ⟨exec_xork_of_absent hr (habsent j), exec_rdk_of_absent hr (habsent j)⟩

/-- Settles O37: `RDK` looks at the flag of its own subkey only. -/
theorem rdkReadsPresentSubkey : Obligations.RdkReadsPresentSubkey := by
  refine ⟨formatR_of_decodeFields rfl, fun s r i hr hpresent => ?_, fun s r i hr habsent => exec_rdk_of_absent hr habsent⟩
  rw [exec_rdk hr, if_pos hpresent, ok_eq_answers]

end Sys2Proof.Machine
end

section
/-! SUPPORT. A run of commands (70_reset_and_hazards.md R267): the word of a legal command is that command, so a run
goes command by command and list by list. -/
namespace Sys2Proof.Machine
open Sys2Proof.Claims

/-- The step on the word of a legal command is that command: its format's reserved bits are zero in the encoding. -/
theorem onWord_encode {i : Instr} (hi : WellFormed i) (s : State) : onWord (encode i) s = exec i s := by
  cases i with
  | lda imm24 | ldp imm24 => exact formatI_of_decodeFields rfl imm24 s
  | kset r imm20 => exact (formatK_of_decodeFields rfl r imm20 s).trans (if_pos ((legalSubkey_iff r).mp hi))
  | xork r | rdk r =>
    exact (formatR_of_decodeFields rfl r 0 s).trans (if_pos ⟨rfl, (legalSubkey_iff r).mp hi⟩)
  | seedb imm8 | rdcnt imm8 | rddev imm8 => exact (formatB_of_decodeFields rfl 0 imm8 s).trans (if_pos rfl)
  | apxp imm16 => exact (formatH_of_decodeFields rfl 0 imm16 s).trans (if_pos rfl)
  | apxu thi tlo umask =>
    exact (formatU_of_decodeFields rfl 0 thi tlo umask s).trans (if_pos ⟨rfl, (distinctUnits_iff thi tlo).mp hi⟩)
  | rdsf x | rdsi x | rdpb x => exact (formatX_of_decodeFields rfl 0 x s).trans (if_pos rfl)
  | rdlat a b => exact (formatL_of_decodeFields rfl 0 a b s).trans (if_pos rfl)
  | _ => exact (formatZ_of_decodeFields rfl 0 s).trans (if_pos rfl)

theorem run_append (es es' : List Event) (s : State) : run (es ++ es') s = run es' (run es s) := by
  induction es generalizing s with
  | nil => rfl
  | cons e es ih => exact ih (after (s.present e))

theorem run_program_append (is js : List Instr) (s : State) :
    run (program (is ++ js)) s = run (program js) (run (program is) s) := by
  simp only [program, words, List.map_append, run_append]

theorem run_program_cons {i : Instr} {s t : State} (hi : WellFormed i) (h : exec i s = .next t) (is : List Instr) :
    run (program (i :: is)) s = run (program is) t := by
  have hstep : step (s.present (.command (encode i))) = .next t := (onWord_encode hi s).trans h
  have hafter : after (s.present (.command (encode i))) = t := by rw [after, hstep]
  change run (program is) (after (s.present (.command (encode i)))) = _
  rw [hafter]

end Sys2Proof.Machine
end

section
/-! SUPPORT. The cipher (44_cipher.md R145 to R152): decryption takes the rounds back one by one, and the step commands
XORK, SUBF, SUBI and PERM do what the rounds are made of. -/
namespace Sys2Proof.Machine
open Sys2Proof.Claims

/-! ### Decryption inverts encryption (R149) -/

section
variable (cfg : Config)

/-- A loop pass with a round's output key undoes the round's permutation and substitution, not its key mixing. -/
theorem unround_round (k k' x : Block) : unround cfg k (round cfg k' x ^^^ k) = x ^^^ k' := by
  rw [unround, round, xor_cancel_right, perm_involutive, subInv_sub]

theorem round_unround (k k' x : Block) : round cfg k' (unround cfg k x ^^^ k') = x ^^^ k := by
  rw [unround, round, xor_cancel_right, sub_subInv, perm_involutive]

theorem subInv_round4 (k4 k5 x : Block) : subInv cfg.sbox (round4 cfg k4 k5 x ^^^ k5) = x ^^^ k4 := by
  rw [round4, xor_cancel_right, subInv_sub]

theorem round4_subInv (k4 k5 x : Block) : round4 cfg k4 k5 (subInv cfg.sbox (x ^^^ k5) ^^^ k4) = x := by
  rw [round4, xor_cancel_right, sub_subInv, xor_cancel_right]

theorem decrypt_encrypt (k : Vector Block 5) : Function.LeftInverse (decrypt cfg k) (encrypt cfg k) := fun p => by
  rw [decrypt, encrypt, subInv_round4, afterRound3, unround_round, unround_round, unround_round, xor_cancel_right]

theorem encrypt_decrypt (k : Vector Block 5) : Function.LeftInverse (encrypt cfg k) (decrypt cfg k) := fun c => by
  rw [encrypt, afterRound3, decrypt, round_unround, round_unround, round_unround, round4_subInv]

end

/-- Settles O38: each map is a two-sided inverse of the other, round by round. -/
theorem cipherRoundTrip : Obligations.CipherRoundTrip := fun cfg k =>
  ⟨decrypt_encrypt cfg k, encrypt_decrypt cfg k, (decrypt_encrypt cfg k).injective,
    (encrypt_decrypt cfg k).surjective⟩

/-! ### `XORK`, `ENC` and `DEC` when the subkeys they use are present (R150 to R152) -/

section
variable {s : State}

theorem exec_xork_of_present {r : BitVec 4} {j : Fin 5} (hr : r.toNat = j.val + 1) (h : s.kv.get j = true) :
    exec (.xork r) s = okA (s.a ^^^ s.k.get j) s :=
  (exec_xork hr s).trans (if_pos h)

theorem exec_enc_of_complete (h : ∀ j, s.kv.get j = true) : exec .enc s = okA (encrypt Config.chip s.k s.a) s :=
  if_pos ((keyComplete_iff s).mpr h)

theorem exec_dec_of_complete (h : ∀ j, s.kv.get j = true) : exec .dec s = okA (decrypt Config.chip s.k s.a) s :=
  if_pos ((keyComplete_iff s).mpr h)

end

/-- The example of R151. No round reads `HASH`, so one hash stands for all of them. -/
theorem encrypt_defaultTables_example (hash : List Byte → Digest) :
    encrypt (Config.defaultTables hash) #v[0x1A2B, 0x3C4D, 0x5E6F, 0x7081, 0x9234] 0x1234 = 0x343C :=
  show encrypt (Config.defaultTables fun _ => 0) #v[0x1A2B, 0x3C4D, 0x5E6F, 0x7081, 0x9234] 0x1234 = 0x343C by decide

/-- Settles O39: the rounds written out are the definition of encryption. -/
theorem encRunsRoundsForward : Obligations.EncRunsRoundsForward :=
  ⟨formatZ_of_decodeFields rfl, fun _ hcomplete => exec_enc_of_complete hcomplete,
    fun _ _ habsent => exec_enc_of_absent habsent, encrypt_defaultTables_example⟩

/-- Settles O40: the loop written out is the definition of decryption; its example is the one of `ENC` read
backward. -/
theorem decRunsRoundsBackward : Obligations.DecRunsRoundsBackward := by
  refine ⟨formatZ_of_decodeFields rfl, fun _ hcomplete => exec_dec_of_complete hcomplete,
    fun _ _ habsent => exec_dec_of_absent habsent, fun hash => ?_⟩
  rw [← encrypt_defaultTables_example hash, decrypt_encrypt]

/-! ### Step commands (R150) -/

/-- Issued in a state with these subkeys and flags, the commands apply `f` to `A` and keep subkeys and flags. -/
def MapsA (k : Vector Block 5) (kv : Vector Bool 5) (is : List Instr) (f : Block → Block) : Prop :=
  ∀ s : State, s.k = k → s.kv = kv →
    (run (program is) s).a = f s.a ∧ (run (program is) s).k = k ∧ (run (program is) s).kv = kv

section
variable {k : Vector Block 5} {kv : Vector Bool 5}

theorem MapsA.run_a {s : State} {is : List Instr} {f : Block → Block} (h : MapsA s.k s.kv is f) :
    (run (program is) s).a = f s.a :=
  (h s rfl rfl).1

theorem MapsA.append {is js : List Instr} {f g : Block → Block} (hf : MapsA k kv is f) (hg : MapsA k kv js g) :
    MapsA k kv (is ++ js) (g ∘ f) := by
  intro s hk hkv
  obtain ⟨ha, hk', hkv'⟩ := hf s hk hkv
  rw [run_program_append, Function.comp_apply, ← ha]
  exact hg _ hk' hkv'

/-- One command that ends with the new value of `A`. -/
theorem mapsA_of_exec {i : Instr} {f : Block → Block} (hi : WellFormed i)
    (h : ∀ s : State, s.k = k → s.kv = kv → exec i s = okA (f s.a) s) : MapsA k kv [i] f := by
  intro s hk hkv
  rw [run_program_cons hi ((h s hk hkv).trans (okA_eq ..))]
  exact ⟨rfl, hk, hkv⟩

theorem mapsA_subf : MapsA k kv [.subf] (sub Config.chip.sbox) := mapsA_of_exec rfl fun s _ _ => exec_subf s

theorem mapsA_subi : MapsA k kv [.subi] (subInv Config.chip.sbox) := mapsA_of_exec rfl fun s _ _ => exec_subi s

theorem mapsA_perm : MapsA k kv [.perm] (perm Config.chip.pbox) := mapsA_of_exec rfl fun s _ _ => exec_perm s

theorem mapsA_enc (h : ∀ j, kv.get j = true) : MapsA k kv [.enc] (encrypt Config.chip k) :=
  mapsA_of_exec rfl fun _ hk hkv => hk ▸ exec_enc_of_complete (hkv ▸ h)

theorem mapsA_dec (h : ∀ j, kv.get j = true) : MapsA k kv [.dec] (decrypt Config.chip k) :=
  mapsA_of_exec rfl fun _ hk hkv => hk ▸ exec_dec_of_complete (hkv ▸ h)

theorem legalSubkey_of_eq {r : BitVec 4} {j : Fin 5} (hr : r.toNat = j.val + 1) : legalSubkey r = true :=
  (legalSubkey_iff r).mpr (by omega)

theorem mapsA_xork {r : BitVec 4} {j : Fin 5} (hr : r.toNat = j.val + 1) (h : kv.get j = true) :
    MapsA k kv [.xork r] (· ^^^ k.get j) :=
  mapsA_of_exec (legalSubkey_of_eq hr) fun _ hk hkv => hk ▸ exec_xork_of_present hr (hkv ▸ h)

theorem mapsA_round {r : BitVec 4} {j : Fin 5} (hr : r.toNat = j.val + 1) (h : kv.get j = true) :
    MapsA k kv [.xork r, .subf, .perm] (round Config.chip (k.get j)) :=
  (mapsA_xork hr h).append (mapsA_subf.append mapsA_perm)

theorem mapsA_unround {r : BitVec 4} {j : Fin 5} (hr : r.toNat = j.val + 1) (h : kv.get j = true) :
    MapsA k kv [.xork r, .perm, .subi] (unround Config.chip (k.get j)) :=
  (mapsA_xork hr h).append (mapsA_perm.append mapsA_subi)

/-- Rounds 1 to 3 of R147 and the three steps of round 4, joined in order, compose to `encrypt`. -/
theorem mapsA_encryptSteps (h : ∀ j, kv.get j = true) :
    MapsA k kv
      [.xork 1, .subf, .perm, .xork 2, .subf, .perm, .xork 3, .subf, .perm, .xork 4, .subf, .xork 5]
      (encrypt Config.chip k) :=
  (mapsA_round rfl (h 0)).append <| (mapsA_round rfl (h 1)).append <| (mapsA_round rfl (h 2)).append <|
    (mapsA_xork rfl (h 3)).append <| mapsA_subf.append <| mapsA_xork rfl (h 4)

/-- The first line of R148, its three loop passes and its last line, joined in order, compose to `decrypt`. -/
theorem mapsA_decryptSteps (h : ∀ j, kv.get j = true) :
    MapsA k kv
      [.xork 5, .subi, .xork 4, .perm, .subi, .xork 3, .perm, .subi, .xork 2, .perm, .subi, .xork 1]
      (decrypt Config.chip k) :=
  (mapsA_xork rfl (h 4)).append <| mapsA_subi.append <| (mapsA_unround rfl (h 3)).append <|
    (mapsA_unround rfl (h 2)).append <| (mapsA_unround rfl (h 1)).append <| mapsA_xork rfl (h 0)

end

/-- Settles O41: the step commands of a round apply the round to `A`, so those of all rounds apply the cipher. -/
theorem xorkMixesSubkey : Obligations.XorkMixesSubkey := by
  refine ⟨formatR_of_decodeFields rfl, fun s r i hr hpresent => ⟨?_, ?_⟩,
    fun s r i hr habsent => exec_xork_of_absent hr habsent, fun s hcomplete => ⟨?_, ?_⟩⟩
  · rw [exec_xork_of_present hr hpresent, okA_eq_answers]
  · have htwice := (mapsA_xork (k := s.k) hr hpresent).append (mapsA_xork hr hpresent)
    exact htwice.run_a.trans (xor_cancel_right s.a (s.k.get i))
  · exact (mapsA_encryptSteps hcomplete).run_a.trans (mapsA_enc hcomplete).run_a.symm
  · exact (mapsA_decryptSteps hcomplete).run_a.trans (mapsA_dec hcomplete).run_a.symm

end Sys2Proof.Machine
end

section
/-! SUPPORT. The Linear Approximation Table (45_lat.md R160 to R166): a cell counts agreements of two forms, and its
laws follow from the balance of a nonzero form and the bijectivity of `SBOX`. -/
namespace Sys2Proof.Machine
open Sys2Proof.Claims

/-! ### The value of a form (R160) -/

@[simp] theorem parity_zero {w : Nat} : parity 0#w = false := by
  have hbelow (m : Nat) : parityBelow 0#w m = false := by
    induction m with
    | zero => rfl
    | succ m ih => simp [parityBelow, ih]
  exact hbelow w

/-- A nonzero form is balanced (the fact R164.1 rests on): a check of the 15 masks. -/
theorem card_form_eq {m : Nibble} (hm : m ≠ 0) (c : Bool) :
    (Finset.univ.filter fun v : Fin 16 => parity (m &&& BitVec.ofFin v) = c).card = 8 := by
  revert m c
  decide

/-- How many of the 16 forms take the value `c` on the nibble `v`. -/
def formsTaking (v : Nibble) (c : Bool) : Nat :=
  (Finset.univ.filter fun a : Fin 16 => parity (BitVec.ofFin a &&& v) = c).card

theorem formsTaking_zero (c : Bool) : formsTaking 0 c = if c then 0 else 16 := by
  cases c <;> simp [formsTaking]

/-- A nibble and a form play the same part, so the balance of forms is one of nibbles too. -/
theorem formsTaking_of_ne {v : Nibble} (hv : v ≠ 0) (c : Bool) : formsTaking v c = 8 := by
  simp only [formsTaking, BitVec.and_comm _ v, card_form_eq hv]

/-- R164's count by inputs: 8 forms for each of the 15 nonzero nibbles, and all 16 or none for the nibble 0. -/
theorem sum_formsTaking (g : Fin 16 → Bool) :
    ∑ v : Fin 16, formsTaking (BitVec.ofFin v) (g v) = if g 0 then 120 else 136 := by
  have hsucc (u : Fin 15) : formsTaking (BitVec.ofFin u.succ) (g u.succ) = 8 :=
    formsTaking_of_ne (fun h => Fin.succ_ne_zero u (congrArg BitVec.toFin h)) _
  have hzero : formsTaking (BitVec.ofFin 0) (g 0) = if g 0 then 0 else 16 := formsTaking_zero (g 0)
  rw [Fin.sum_univ_succ, hzero, Finset.sum_congr rfl fun u _ => hsucc u]
  split <;> rfl

/-! ### The table holds the counts (R161, R163) -/

theorem latCount_eq_lat (sb : SBox) (a b : Nibble) : latCount sb a b = lat sb a b := by
  have hagree (v : Fin 16) : formsAgree sb a b (BitVec.ofFin v) =
      decide (parity (a &&& BitVec.ofFin v) = parity (b &&& sb.forward.get v)) := beq_eq_decide ..
  rw [latCount, List.countP_eq_length_filter]
  simp only [hagree]
  rfl

theorem lat_le (sb : SBox) (a b : Nibble) : lat sb a b ≤ 16 := Finset.card_le_univ _

theorem latTable_get (sb : SBox) (a b : Fin 16) :
    ((latTable sb).get a).get b = BitVec.ofNat 5 (lat sb (BitVec.ofFin a) (BitVec.ofFin b)) := by
  rw [latTable, get_tabulate, get_tabulate, latCount_eq_lat]

/-- A count up to 16 fits the 5 bits of a cell. -/
theorem latTable_get_toNat (sb : SBox) (a b : Fin 16) :
    (((latTable sb).get a).get b).toNat = lat sb (BitVec.ofFin a) (BitVec.ofFin b) := by
  rw [latTable_get]
  exact Nat.mod_eq_of_lt (Nat.lt_of_le_of_lt (lat_le ..) (by decide))

/-- Settles O43: the loop of R161 counts the same inputs as the definition, and 5 bits hold the count. -/
theorem latCellCountsAgreements : Obligations.LatCellCountsAgreements := fun sb a b =>
  ⟨latTable_get_toNat sb a.toFin b.toFin, lat_le sb a b, by rw [bias, latCount_eq_lat]⟩

/-! ### Exchanging the two tables exchanges rows and columns -/

/-- The validated pair with its two tables exchanged. -/
def swapTables (sb : SBox) : SBox where
  forward := sb.inverse
  inverse := sb.forward
  inverse_forward := sb.forward_inverse
  forward_inverse := sb.inverse_forward

/-- `SBOX` as a bijection of the 16 indices. -/
def sboxEquiv (sb : SBox) : Fin 16 ≃ Fin 16 where
  toFun v := (sb.forward.get v).toFin
  invFun u := (sb.inverse.get u).toFin
  left_inv v := congrArg BitVec.toFin (sb.inverse_forward (BitVec.ofFin v))
  right_inv u := congrArg BitVec.toFin (sb.forward_inverse (BitVec.ofFin u))

/-- Counting by outputs instead of inputs: `v` ranges over the nibbles exactly when `SBOX[v]` does. -/
theorem lat_swapTables (sb : SBox) (a b : Nibble) : lat (swapTables sb) b a = lat sb a b := by
  refine (Finset.card_equiv (sboxEquiv sb) fun v => ?_).symm
  have hback : sb.inverse.get (sboxEquiv sb v) = BitVec.ofFin v := sb.inverse_forward (BitVec.ofFin v)
  rw [Finset.mem_filter_univ, Finset.mem_filter_univ, swapTables, hback]
  exact eq_comm

/-! ### The laws of the table (R164) -/

section
variable (sb : SBox)

theorem lat_zero_zero : lat sb 0 0 = 16 := by simp [lat]

/-- The constant form 0 agrees with a balanced form on half of the nibbles. -/
theorem lat_zero_right {a : Nibble} (ha : a ≠ 0) : lat sb a 0 = 8 := by
  have hzero (v : Fin 16) : parity (0 &&& sb.forward.get v) = false := by simp
  simp only [lat, hzero, card_form_eq ha]

theorem lat_zero_left {b : Nibble} (hb : b ≠ 0) : lat sb 0 b = 8 := by
  rw [← lat_swapTables, lat_zero_right _ hb]

/-- R164's count of overlaps: inputs on which both forms are 0 are counted by all three cells, every other input by one
of them. -/
theorem lat_add_lat_zero (a b : Nibble) :
    lat sb a b + lat sb a 0 + lat sb 0 b = 16 + 2 * (Finset.univ.filter fun v : Fin 16 =>
      parity (a &&& BitVec.ofFin v) = false ∧ parity (b &&& sb.forward.get v) = false).card := by
  change _ = (∑ _v : Fin 16, 1) + 2 * _
  simp only [lat, Finset.card_filter, Finset.mul_sum, ← Finset.sum_add_distrib]
  refine Finset.sum_congr rfl fun v _ => ?_
  cases parity (a &&& BitVec.ofFin v) <;> cases parity (b &&& sb.forward.get v) <;> simp

theorem two_dvd_lat_zero_right (a : Nibble) : 2 ∣ lat sb a 0 := by
  obtain rfl | ha := eq_or_ne a 0
  · rw [lat_zero_zero]; decide
  · rw [lat_zero_right sb ha]; decide

theorem two_dvd_lat (a b : Nibble) : 2 ∣ lat sb a b := by
  have hoverlap := lat_add_lat_zero sb a b
  have hrow := two_dvd_lat_zero_right sb a
  have hcol := two_dvd_lat_zero_right (swapTables sb) b
  rw [lat_swapTables] at hcol
  omega

/-- Column by column: the cells of a column count, over all inputs, the input forms that agree with the output form. -/
theorem sum_lat_column (b : Nibble) :
    ∑ a : Fin 16, lat sb (BitVec.ofFin a) b = if parity (b &&& sb.forward.get 0) then 120 else 136 := by
  rw [← sum_formsTaking fun v => parity (b &&& sb.forward.get v)]
  simp only [lat, formsTaking, Finset.card_filter]
  exact Finset.sum_comm

theorem sum_lat_row (a : Nibble) :
    ∑ b : Fin 16, lat sb a (BitVec.ofFin b) = if parity (a &&& sb.inverse.get 0) then 120 else 136 := by
  simp only [← lat_swapTables sb a]
  exact sum_lat_column (swapTables sb) a

end

/-- Settles O44: the rows of the table are the columns of the exchanged pair. -/
theorem latLaws : Obligations.LatLaws := fun sb =>
  ⟨⟨lat_zero_zero sb, fun _ => lat_zero_left sb, fun _ => lat_zero_right sb⟩, two_dvd_lat sb, sum_lat_row sb,
    sum_lat_column sb⟩

/-! ### `LATB` and `RDLAT` (R165, R166) -/

theorem exec_latb (s : State) : exec .latb s = ok 0 (s.setLat (latTable Config.chip.sbox)) := rfl

theorem exec_rdlat_of_built {s : State} (h : s.latv = true) (a b : Nibble) :
    exec (.rdlat a b) s = ok (((s.lat.get a.toFin).get b.toFin).setWidth 32) s := if_pos h

theorem exec_rdlat_of_not_built {s : State} (h : s.latv = false) (a b : Nibble) :
    exec (.rdlat a b) s = fail .notReady s := if_neg (Bool.eq_false_iff.mp h)

theorem latTable_zero_zero (sb : SBox) :
    ((latTable sb).get (0 : Nibble).toFin).get (0 : Nibble).toFin = 16#5 :=
  (latTable_get sb 0 0).trans (congrArg (BitVec.ofNat 5) (lat_zero_zero sb))

/-- Settles O45: `LATB` reads no state, so a second one writes the same cells again. -/
theorem latbBuildsRdlatReads : Obligations.LatbBuildsRdlatReads := by
  refine ⟨formatZ_of_decodeFields rfl, formatL_of_decodeFields rfl, fun s =>
    ⟨s.setLat (latTable Config.chip.sbox), exec_latb s, rfl, latTable_get_toNat Config.chip.sbox, exec_latb _, ?_⟩,
    fun s a b hbuilt => exec_rdlat_of_built hbuilt a b, fun s a b hnot => exec_rdlat_of_not_built hnot a b, ?_⟩
  · rw [exec_rdlat_of_built rfl, State.setLat_lat, latTable_zero_zero]
    rfl
  · decide

end Sys2Proof.Machine
end

section
/-! SUPPORT. The commands of the recovery engine (46_recovery.md R179 to R190), one equation per case, and what
those that set and read the approximation, the counters and the result leave. -/
namespace Sys2Proof.Machine
open Sys2Proof.Claims

/-! ### One equation per case -/

section
variable (s : State)

theorem exec_apxp (imm16 : BitVec 16) : exec (.apxp imm16) s = ok 0 (s.setPmask imm16) := rfl

theorem exec_apxu_of_ne {thi tlo : BitVec 2} (h : thi ≠ tlo) (umask : Byte) :
    exec (.apxu thi tlo umask) s = ok 0 (s.setTarget thi tlo umask) :=
  if_pos ((distinctUnits_iff thi tlo).mpr h)

theorem exec_apxu_of_eq (thi : BitVec 2) (umask : Byte) :
    exec (.apxu thi thi umask) s = fail .illegalCommand s :=
  if_neg fun h => (distinctUnits_iff thi thi).mp h rfl

theorem exec_rinit : exec .rinit s = ok 0 (s.setCounts (Vector.replicate 256 0#32) 0) := rfl

theorem exec_rdcnt (imm8 : Byte) : exec (.rdcnt imm8) s = ok (s.cnt.get imm8.toFin) s := rfl

theorem exec_rdn : exec .rdn s = ok s.n s := rfl

theorem exec_rdapx : exec .rdapx s = ok s.apx s := rfl

variable {s}

theorem exec_smp_of_lt (h : s.n.toNat < 2 ^ 32 - 1) :
    exec .smp s = ok 0 (s.setCounts (countSample Config.chip.sbox s.approximation s.p s.a s.cnt) (s.n + 1)) :=
  if_neg fun hfull => absurd (congrArg BitVec.toNat hfull) (Nat.ne_of_lt h)

theorem exec_smp_of_full (h : s.n.toNat = 2 ^ 32 - 1) : exec .smp s = fail .capacity s :=
  if_pos (BitVec.eq_of_toNat_eq h)

theorem exec_recov_of_ne (h : s.n ≠ 0) :
    exec .recov s = ok ((selectCandidate s.cnt s.n).setWidth 32) (s.setResult (selectCandidate s.cnt s.n)) :=
  if_neg h

theorem exec_recov_of_empty (h : s.n = 0) : exec .recov s = fail .emptySampleSet s := if_pos h

theorem exec_rddev_of_ne (h : s.n ≠ 0) (c : Byte) :
    exec (.rddev c) s = ok (BitVec.ofNat 32 (dev2 (s.cnt.get c.toFin) s.n)) s := if_neg h

theorem exec_rddev_of_empty (h : s.n = 0) (c : Byte) : exec (.rddev c) s = fail .emptySampleSet s := if_pos h

theorem exec_rdcand_of_valid (h : s.resv = true) : exec .rdcand s = ok (s.cand.setWidth 32) s := if_pos h

theorem exec_rdcand_of_not_valid (h : s.resv = false) : exec .rdcand s = fail .notReady s :=
  if_neg (Bool.eq_false_iff.mp h)

end

/-! ### The approximation and its view (R179, R180, R190) -/

/-- Settles O46: the two commands write their own registers, and equal units are refused before any write. -/
theorem apxpApxuSetApproximation : Obligations.ApxpApxuSetApproximation :=
  ⟨formatH_of_decodeFields rfl, formatU_of_decodeFields rfl, exec_apxp, fun s _ _ umask h => exec_apxu_of_ne s h umask,
    exec_apxu_of_eq⟩

theorem extractLsb'_apx (s : State) :
    s.apx.extractLsb' 16 16 = s.pmask ∧ s.apx.extractLsb' 12 4 = 0#4 ∧ s.apx.extractLsb' 10 2 = s.thi ∧
      s.apx.extractLsb' 8 2 = s.tlo ∧ s.apx.extractLsb' 0 8 = s.umask := by
  refine ⟨?_, ?_, ?_, ?_, ?_⟩
  all_goals
    refine BitVec.eq_of_getLsbD_eq fun i hi => ?_
    simp only [State.apx, BitVec.getLsbD_extractLsb', BitVec.getLsbD_or, BitVec.getLsbD_shiftLeft,
      BitVec.getLsbD_setWidth, BitVec.getLsbD_zero]
    grind

/-- Settles O20: the shifted registers overlap in no bit, so each slice of the view is one of them. -/
theorem rdapxReturnsApproximation : Obligations.RdapxReturnsApproximation := by
  refine ⟨formatZ_of_decodeFields rfl, fun s => ⟨s.apx, exec_rdapx s, ?_⟩, ?_⟩
  · exact extractLsb'_apx s
  · rw [exec_rdapx, show State.reset.apx = 0x00000400 by decide, ok_eq_answers]

/-! ### The counters (R181, R186 to R188) -/

/-- Settles O47: `RINIT` writes the reset values, and without a sample `RECOV` fails. -/
theorem rinitStartsAttackRun : Obligations.RinitStartsAttackRun :=
  ⟨formatZ_of_decodeFields rfl, fun s => ⟨s.setCounts (Vector.replicate 256 0#32) 0, exec_rinit s, rfl,
    fun c => get_replicate 0#32 c.toFin, rfl, rfl, rfl, rfl, exec_rdn _, exec_recov_of_empty rfl⟩⟩

/-- Settles O53: the three reads are one answer each, `RDCAND` behind the check of `RESV`. -/
theorem rdcntRdnRdcandRead : Obligations.RdcntRdnRdcandRead :=
  ⟨formatB_of_decodeFields rfl, formatZ_of_decodeFields rfl, formatZ_of_decodeFields rfl, exec_rdcnt, exec_rdn,
    fun _ => exec_rdcand_of_valid, fun _ => exec_rdcand_of_not_valid⟩

end Sys2Proof.Machine
end

section
/-! SUPPORT. The hypothesis of a candidate (46_recovery.md R176 to R178): it undoes the last substitution on an honest
ciphertext, and it maps the candidates one to one onto the bytes, so a nonzero mask over it splits them in half. -/
namespace Sys2Proof.Machine
open Sys2Proof.Claims

/-! ### The two nibbles of a byte (R176) -/

@[simp] theorem hiNibble_append (hi lo : Nibble) : hiNibble (hi ++ lo : BitVec 8) = hi :=
  BitVec.extractLsb'_append_eq_left

@[simp] theorem loNibble_append (hi lo : Nibble) : loNibble (hi ++ lo : BitVec 8) = lo :=
  BitVec.extractLsb'_append_eq_right

theorem hiNibble_append_loNibble (c : Byte) : (hiNibble c ++ loNibble c : BitVec 8) = c :=
  (BitVec.extractLsb'_append_extractLsb'_eq_extractLsb' rfl).trans BitVec.extractLsb'_eq_self

/-! ### The hypothesis reads the last round backward (R177) -/

theorem nib_xor (x y : Block) (j : BitVec 2) : nib (x ^^^ y) j = nib x j ^^^ nib y j :=
  BitVec.extractLsb'_xor

/-- Nibble by nibble: the guess takes `K5` off again, and the inverse table the substitution. -/
theorem substitute_nib_round4 (cfg : Config) (k4 k5 x : Block) (j : BitVec 2) :
    substitute (nib (round4 cfg k4 k5 x) j ^^^ nib k5 j) cfg.sbox.inverse = nib (x ^^^ k4) j := by
  rw [round4, nib_xor, xor_cancel_right, sub, nib_applyToState]
  exact substitute_inverse_forward cfg.sbox _

/-- Settles O50: the true candidate holds the nibbles of `K5` at the target units, where round 4 mixed them in. -/
theorem trueCandidateGivesTrueInput : Obligations.TrueCandidateGivesTrueInput := by
  refine ⟨fun _ _ _ _ => rfl, fun cfg k ap p => ?_⟩
  rw [hypothesis, hiNibble_append, loNibble_append, encrypt, substitute_nib_round4, substitute_nib_round4]

/-! ### The hypothesis is a bijection from candidates to bytes -/

section
variable (sb : SBox) (ap : Approximation) (pt ct : Block)

/-- The candidate whose hypothesis is a given byte. -/
def candidateOf (u : Byte) : Byte :=
  (nib ct ap.thi ^^^ substitute (hiNibble u) sb.forward) ++ (nib ct ap.tlo ^^^ substitute (loNibble u) sb.forward)

theorem candidateOf_hypothesis : Function.LeftInverse (candidateOf sb ap ct) (hypothesis sb ap ct) := fun c => by
  have hback (x y : Nibble) : x ^^^ substitute (substitute (x ^^^ y) sb.inverse) sb.forward = y := by
    rw [show substitute (substitute (x ^^^ y) sb.inverse) sb.forward = _ from substitute_forward_inverse sb _,
      xor_cancel_left]
  rw [candidateOf, hypothesis, hiNibble_append, loNibble_append, hback, hback, hiNibble_append_loNibble]

theorem hypothesis_bijective : Function.Bijective (hypothesis sb ap ct) :=
  Finite.injective_iff_bijective.mp (candidateOf_hypothesis sb ap ct).injective

end

/-! ### Half of the bytes have odd parity under a nonzero mask -/

theorem parityBelow_twoPow {w i : Nat} (hi : i < w) (m : Nat) :
    parityBelow (BitVec.twoPow w i) m = decide (i < m) := by
  induction m with
  | zero => rfl
  | succ m ih =>
    rw [parityBelow, ih, BitVec.getLsbD_twoPow, decide_eq_true hi]
    grind

theorem and_xor {w : Nat} (x y m : BitVec w) : (x ^^^ y) &&& m = (x &&& m) ^^^ (y &&& m) := by
  ext i hi
  simp [Bool.and_xor_distrib_right]

theorem exists_getLsbD_of_ne_zero {w : Nat} {m : BitVec w} (hm : m ≠ 0#w) : ∃ i < w, m.getLsbD i = true := by
  by_contra! h
  exact hm (BitVec.eq_of_getLsbD_eq fun i hi => by simpa using h i hi)

/-- Under a nonzero mask some single bit has odd parity. -/
theorem exists_parity_and {w : Nat} {m : BitVec w} (hm : m ≠ 0#w) : ∃ x : BitVec w, parity (x &&& m) = true := by
  obtain ⟨i, hi, hbit⟩ := exists_getLsbD_of_ne_zero hm
  refine ⟨BitVec.twoPow w i, ?_⟩
  rw [BitVec.twoPow_and, if_pos hbit, parity, parityBelow_twoPow hi, decide_eq_true hi]

theorem card_bitVec (w : Nat) : Fintype.card (BitVec w) = 2 ^ w := by
  rw [← FinEnum.card_eq_fintypeCard, FinEnum.card_bitVec]

/-- Adding a value of odd parity exchanges the values of even parity with those of odd parity. -/
theorem two_mul_card_parity_and {w : Nat} {m : BitVec w} (hm : m ≠ 0#w) (b : Bool) :
    2 * (Finset.univ.filter fun x : BitVec w => parity (x &&& m) = b).card = 2 ^ w := by
  obtain ⟨y, hy⟩ := exists_parity_and hm
  have hflip (x : BitVec w) : parity ((x ^^^ y) &&& m) = !parity (x &&& m) := by
    rw [and_xor, parity_xor, hy, Bool.xor_true]
  have hswap : (Finset.univ.filter fun x : BitVec w => parity (x &&& m) = b).card =
      (Finset.univ.filter fun x : BitVec w => ¬parity (x &&& m) = b).card := by
    refine Finset.card_bijective (· ^^^ y) (Function.Involutive.bijective fun x => xor_cancel_right x y) fun x => ?_
    rw [Finset.mem_filter_univ, Finset.mem_filter_univ, hflip, Bool.not_eq, not_not, eq_comm]
  calc 2 * (Finset.univ.filter fun x : BitVec w => parity (x &&& m) = b).card
    _ = (Finset.univ.filter fun x : BitVec w => parity (x &&& m) = b).card +
        (Finset.univ.filter fun x : BitVec w => ¬parity (x &&& m) = b).card := by rw [two_mul, ← hswap]
    _ = Fintype.card (BitVec w) := Finset.card_filter_add_card_filter_not _
    _ = 2 ^ w := card_bitVec w

/-! ### How many candidates satisfy the approximation (R178) -/

section
variable (sb : SBox) (ap : Approximation) (pt ct : Block)

theorem evaluate_eq_false_iff (c : Byte) :
    evaluate sb ap pt ct c = false ↔ parity (pt &&& ap.pmask) = parity (hypothesis sb ap ct c &&& ap.umask) := by
  rw [evaluate, bne_eq_false_iff_eq]

/-- The candidates with `t = 0` correspond to the bytes whose parity under `UMASK` is that of the plaintext part. -/
theorem card_evaluate_eq_card_parity :
    (Finset.univ.filter fun c : Fin 256 => evaluate sb ap pt ct (BitVec.ofFin c) = false).card =
      (Finset.univ.filter fun u : Byte => parity (u &&& ap.umask) = parity (pt &&& ap.pmask)).card := by
  have hbij : Function.Bijective fun c : Fin 256 => hypothesis sb ap ct (BitVec.ofFin c) :=
    (hypothesis_bijective sb ap ct).comp BitVec.equivFin.symm.bijective
  refine Finset.card_bijective _ hbij fun c => ?_
  rw [Finset.mem_filter_univ, Finset.mem_filter_univ, evaluate_eq_false_iff, eq_comm]

/-- Half of the candidates under a nonzero mask; under the mask 0 the plaintext part decides for all of them. -/
theorem card_evaluate_eq_false :
    (Finset.univ.filter fun c : Fin 256 => evaluate sb ap pt ct (BitVec.ofFin c) = false).card =
      if ap.umask ≠ 0 then 128 else if parity (pt &&& ap.pmask) then 0 else 256 := by
  rw [card_evaluate_eq_card_parity]
  obtain hzero | hne := eq_or_ne ap.umask 0
  · have hpar (u : Byte) : parity (u &&& ap.umask) = false := by simp [hzero]
    rw [if_neg (not_not.mpr hzero)]
    simp only [hpar]
    cases parity (pt &&& ap.pmask) with
    | true => simp
    | false => simp [card_bitVec]
  · rw [if_pos hne]
    exact Nat.eq_of_mul_eq_mul_left two_pos (two_mul_card_parity_and hne (parity (pt &&& ap.pmask)))

end

end Sys2Proof.Machine
end

section
/-! SUPPORT. Counting samples (46_recovery.md R182, R192): what one sample does to each counter, how many counters it
moves, and that a list of samples may be presented in any order. -/
namespace Sys2Proof.Machine
open Sys2Proof.Claims

/-! ### The counters after one sample (R182) -/

section
variable (sb : SBox) (ap : Approximation) (pt ct : Block) (cnt : Vector Word 256)

theorem get_countSample (c : Fin 256) :
    (countSample sb ap pt ct cnt).get c =
      cnt.get c + if evaluate sb ap pt ct (BitVec.ofFin c) = false then 1 else 0 := by
  rw [countSample, get_tabulate]
  cases evaluate sb ap pt ct (BitVec.ofFin c) with
  | true => exact (BitVec.add_zero _).symm
  | false => rfl

/-- A counter moves exactly when its candidate satisfies the approximation: adding 1 never leaves a word as it is. -/
theorem get_countSample_ne_iff (c : Fin 256) :
    (countSample sb ap pt ct cnt).get c ≠ cnt.get c ↔ evaluate sb ap pt ct (BitVec.ofFin c) = false := by
  rw [get_countSample]
  cases evaluate sb ap pt ct (BitVec.ofFin c) with
  | true => simp
  | false => simp

theorem card_moved_counters :
    (Finset.univ.filter fun c : Fin 256 => (countSample sb ap pt ct cnt).get c ≠ cnt.get c).card =
      if ap.umask ≠ 0 then 128 else if parity (pt &&& ap.pmask) then 0 else 256 := by
  simp only [get_countSample_ne_iff]
  exact card_evaluate_eq_false sb ap pt ct

variable {cnt}

/-- Below the limit no counter wraps. -/
theorem get_countSample_toNat {c : Fin 256} (h : (cnt.get c).toNat < 2 ^ 32 - 1) :
    ((countSample sb ap pt ct cnt).get c).toNat =
      (cnt.get c).toNat + if evaluate sb ap pt ct (BitVec.ofFin c) = false then 1 else 0 := by
  rw [get_countSample]
  cases evaluate sb ap pt ct (BitVec.ofFin c) with
  | true => simp
  | false => exact BitVec.toNat_add_of_lt (y := 1#32) (Nat.add_lt_of_lt_sub h)

/-- The sum of the counters grows by the number of candidates that satisfy the approximation. -/
theorem sum_countSample (h : ∀ c : Fin 256, (cnt.get c).toNat < 2 ^ 32 - 1) :
    ∑ c : Fin 256, ((countSample sb ap pt ct cnt).get c).toNat = ∑ c : Fin 256, (cnt.get c).toNat +
      (Finset.univ.filter fun c : Fin 256 => evaluate sb ap pt ct (BitVec.ofFin c) = false).card := by
  rw [Finset.card_filter, ← Finset.sum_add_distrib]
  exact Finset.sum_congr rfl fun c _ => get_countSample_toNat sb ap pt ct (h c)

end

theorem n_add_one_toNat {n : Word} (h : n.toNat < 2 ^ 32 - 1) : (n + 1).toNat = n.toNat + 1 :=
  BitVec.toNat_add_of_lt (Nat.add_lt_of_lt_sub h)

/-- Settles O48: the counters that move are those of the candidates with `t = 0`, half of them under a nonzero
`UMASK`. -/
theorem smpCountsOneSample : Obligations.SmpCountsOneSample := by
  refine ⟨formatZ_of_decodeFields rfl, fun s hlt => ⟨s.setCounts
    (countSample Config.chip.sbox s.approximation s.p s.a s.cnt) (s.n + 1), exec_smp_of_lt hlt, rfl,
    n_add_one_toNat hlt, fun c => ?_, ?_, fun hmask hle => ?_⟩, fun s hfull => exec_smp_of_full hfull, ?_⟩
  · rw [State.setCounts_cnt, get_countSample]
    simp only [evaluate_eq_false_iff]
    rfl
  · exact card_moved_counters ..
  · have hhalf := (card_evaluate_eq_false Config.chip.sbox s.approximation s.p s.a).trans (if_pos hmask)
    rw [State.setCounts_cnt, sum_countSample _ _ _ _ fun c => (hle c).trans_lt hlt, hhalf]
  · simp only [get_countSample, get_replicate]
    decide

/-! ### Samples presented one after the other (R192) -/

theorem setWidth16_setWidth (w : Nat) (hw : 16 ≤ w) (v : Block) : (v.setWidth w).setWidth 16 = v := by
  rw [BitVec.setWidth_setWidth_of_le v hw, BitVec.setWidth_eq]

theorem fits16_setWidth (w : Nat) (v : Block) : fits16 (v.setWidth w) = true := by
  rw [fits16_iff, BitVec.toNat_setWidth]
  have := v.isLt
  exact (Nat.mod_le ..).trans (by omega)

theorem exec_lda_of_block (v : Block) (s : State) : exec (.lda (v.setWidth 24)) s = okA v s :=
  (if_pos (fits16_setWidth 24 v)).trans (by rw [setWidth16_setWidth 24 (by decide)])

theorem exec_ldp_of_block (v : Block) (s : State) : exec (.ldp (v.setWidth 24)) s = ok 0 (s.setP v) :=
  (if_pos (fits16_setWidth 24 v)).trans (by rw [setWidth16_setWidth 24 (by decide)])

/-- The counters after a list of samples, in the order in which they are presented. -/
def countSamples (ap : Approximation) (l : List (Block × Block)) (cnt : Vector Word 256) : Vector Word 256 :=
  l.foldl (fun cnt pc => countSample Config.chip.sbox ap pc.1 pc.2 cnt) cnt

/-- The state with the sample `(pt, ct)` loaded into `P` and `A`, which `SAMPLE pt, ct` then counts. -/
def loaded (pt ct : Block) (s : State) : State :=
  (((s.setP pt).respond ⟨0, 0⟩).setA ct).respond ⟨0, ct.setWidth 32⟩

/-- The state that `SAMPLE pt, ct` leaves. -/
def sampled (pt ct : Block) (s : State) : State :=
  ((loaded pt ct s).setCounts (countSample Config.chip.sbox s.approximation pt ct s.cnt) (s.n + 1)).respond ⟨0, 0⟩

theorem run_sample (pt ct : Block) {s : State} (h : s.n.toNat < 2 ^ 32 - 1) :
    run (program [.ldp (pt.setWidth 24), .lda (ct.setWidth 24), .smp]) s = sampled pt ct s := by
  have hsmp : exec .smp (loaded pt ct s) = .next (sampled pt ct s) := exec_smp_of_lt h
  calc run (program [.ldp (pt.setWidth 24), .lda (ct.setWidth 24), .smp]) s
    _ = run (program [.lda (ct.setWidth 24), .smp]) ((s.setP pt).respond ⟨0, 0⟩) :=
      run_program_cons rfl (exec_ldp_of_block pt s) _
    _ = run (program [.smp]) (loaded pt ct s) := run_program_cons rfl (exec_lda_of_block ct _) _
    _ = sampled pt ct s := run_program_cons rfl hsmp []

theorem run_samples_cons (pc : Block × Block) (l : List (Block × Block)) {s : State} (h : s.n.toNat < 2 ^ 32 - 1) :
    run (samples (pc :: l)) s = run (samples l) (sampled pc.1 pc.2 s) := by
  rw [samples, List.flatMap_cons, run_program_append, run_sample pc.1 pc.2 h, samples]

theorem run_samples {s : State} {l : List (Block × Block)} (h : s.n.toNat + l.length < 2 ^ 32) :
    (run (samples l) s).cnt = countSamples s.approximation l s.cnt ∧
      (run (samples l) s).n.toNat = s.n.toNat + l.length := by
  induction l generalizing s with
  | nil => exact ⟨rfl, rfl⟩
  | cons pc l ih =>
    rw [List.length_cons] at h ⊢
    have hlt : s.n.toNat < 2 ^ 32 - 1 := by omega
    have hn : (sampled pc.1 pc.2 s).n.toNat = s.n.toNat + 1 := n_add_one_toNat hlt
    obtain ⟨ihcnt, ihn⟩ := ih (s := sampled pc.1 pc.2 s) (by omega)
    rw [run_samples_cons pc l hlt]
    exact ⟨ihcnt, by omega⟩

/-- Each sample adds to a counter an amount that depends on no counter, so two samples may change places. -/
theorem countSample_right_comm (sb : SBox) (ap : Approximation) (pc pc' : Block × Block) (cnt : Vector Word 256) :
    countSample sb ap pc'.1 pc'.2 (countSample sb ap pc.1 pc.2 cnt) =
      countSample sb ap pc.1 pc.2 (countSample sb ap pc'.1 pc'.2 cnt) :=
  vector_ext_get fun c => by simp only [get_countSample, add_right_comm]

theorem countSamples_perm (ap : Approximation) {l l' : List (Block × Block)} (h : l.Perm l') (cnt : Vector Word 256) :
    countSamples ap l cnt = countSamples ap l' cnt :=
  h.foldl_eq' (fun pc _ pc' _ cnt => countSample_right_comm _ ap pc pc' cnt) cnt

/-- Settles O57: the counters are a fold of commuting steps, and `N` is a length. -/
theorem sampleOrderDoesNotMatter : Obligations.SampleOrderDoesNotMatter := by
  intro s l l' hperm hlt
  obtain ⟨hcnt, hn⟩ := run_samples hlt
  obtain ⟨hcnt', hn'⟩ := run_samples (hperm.length_eq ▸ hlt)
  refine ⟨?_, BitVec.eq_of_toNat_eq ?_, hn⟩
  · rw [hcnt, hcnt', countSamples_perm _ hperm]
  · rw [hn, hn', hperm.length_eq]

end Sys2Proof.Machine
end

section
/-! SUPPORT. Scores and selection (46_recovery.md R183 to R185, R189, R191): `dev2` is the numerator of the score, and
the scan of the candidates finds the least one of maximal `dev2`. -/
namespace Sys2Proof.Machine
open Sys2Proof.Claims

/-! ### `dev2` (R183, R189) -/

theorem dev2_cast (count n : Word) : (dev2 count n : Int) = |2 * (count.toNat : Int) - (n.toNat : Int)| :=
  Int.natCast_natAbs _

theorem dev2_le {count n : Word} (h : count.toNat ≤ n.toNat) : dev2 count n ≤ n.toNat := by
  rw [dev2]
  omega

/-- A deviation at most `N` fits the response data. -/
theorem dev2_ofNat_toNat {count n : Word} (h : count.toNat ≤ n.toNat) :
    (BitVec.ofNat 32 (dev2 count n)).toNat = dev2 count n :=
  Nat.mod_eq_of_lt ((dev2_le h).trans_lt n.isLt)

/-- Settles O54: under R28 the deviation is at most `N`, so its 32 bits are all of it. -/
theorem rddevReturnsDeviation : Obligations.RddevReturnsDeviation := by
  refine ⟨formatB_of_decodeFields rfl, fun s c hn hle => ⟨_, exec_rddev_of_ne hn c, ?_, ?_⟩,
    fun _ c hn => exec_rddev_of_empty hn c⟩
  · rw [dev2_ofNat_toNat hle, dev2_cast]
  · rw [dev2_ofNat_toNat hle]
    exact dev2_le hle

/-! ### The score (R183) -/

section
variable {n : Word}

theorem toNat_cast_pos (hn : n ≠ 0) : (0 : ℚ) < n.toNat :=
  Nat.cast_pos.mpr (Nat.pos_of_ne_zero fun hzero => hn (BitVec.eq_of_toNat_eq hzero))

theorem score_eq_div (count n : Word) : score count n = (dev2 count n : ℚ) / (2 * (n.toNat : ℚ)) := by
  have hdev : (dev2 count n : ℚ) = |2 * (count.toNat : ℚ) - n.toNat| := by
    rw [dev2, Nat.cast_natAbs]
    push_cast
    rfl
  have hhalf : (count.toNat : ℚ) - n.toNat / 2 = (2 * count.toNat - n.toNat) / 2 := by ring
  rw [score, hhalf, hdev, abs_div, abs_two, div_div]

theorem score_nonneg (count : Word) : 0 ≤ score count n := div_nonneg (abs_nonneg _) (Nat.cast_nonneg _)

theorem score_le_half (hn : n ≠ 0) {count : Word} (h : count.toNat ≤ n.toNat) : score count n ≤ 1 / 2 := by
  have hpos := toNat_cast_pos hn
  have hle : (dev2 count n : ℚ) ≤ n.toNat := Nat.cast_le.mpr (dev2_le h)
  rw [score_eq_div, div_le_div_iff₀ (by positivity) two_pos]
  linarith

/-- All scores of a run have the same denominator. -/
theorem score_lt_score_iff (hn : n ≠ 0) (count count' : Word) :
    score count n < score count' n ↔ dev2 count n < dev2 count' n := by
  have hpos := toNat_cast_pos hn
  rw [score_eq_div, score_eq_div, div_lt_div_iff_of_pos_right (by positivity), Nat.cast_lt]

end

/-- Settles O55: the score is `dev2` over a positive denominator that is the same for all candidates. -/
theorem scoreIsExactFraction : Obligations.ScoreIsExactFraction := by
  refine ⟨fun count n hn hle => ⟨score_eq_div count n, dev2_le hle, score_nonneg count, score_le_half hn hle⟩,
    fun s c hn hle => ⟨_, exec_rddev_of_ne hn c, exec_rdn s, ?_⟩,
    fun count count' n hn => score_lt_score_iff hn count count',
    fun s c hn => ⟨exec_recov_of_empty hn, exec_rddev_of_empty hn c⟩⟩
  rw [dev2_ofNat_toNat hle, score_eq_div]

/-! ### The scan of the candidates (R184) -/

/-- `c` is the least element of `l` at which `f` is maximal. -/
structure LeastArgMax (f : Byte → Nat) (l : List Byte) (c : Byte) : Prop where
  mem : c ∈ l
  le_max : ∀ x ∈ l, f x ≤ f c
  lt_of_lt : ∀ x ∈ l, x < c → f x < f c

section
variable {f : Byte → Nat} {l : List Byte} {b c c' : Byte}

theorem LeastArgMax.unique (h : LeastArgMax f l c) (h' : LeastArgMax f l c') : c = c' := by
  refine BitVec.le_antisymm (BitVec.not_lt.mp fun hlt => ?_) (BitVec.not_lt.mp fun hlt => ?_)
  · exact (h.lt_of_lt c' h'.mem hlt).not_ge (h'.le_max c h.mem)
  · exact (h'.lt_of_lt c h.mem hlt).not_ge (h.le_max c' h'.mem)

/-- A strictly worse candidate in front changes nothing. -/
theorem LeastArgMax.cons_of_lt (h : LeastArgMax f l c) (hlt : f b < f c) : LeastArgMax f (b :: l) c where
  mem := List.mem_cons_of_mem b h.mem
  le_max := List.forall_mem_cons.mpr ⟨hlt.le, h.le_max⟩
  lt_of_lt := List.forall_mem_cons.mpr ⟨fun _ => hlt, h.lt_of_lt⟩

/-- A candidate that is neither better nor smaller than the one in front changes nothing. -/
theorem LeastArgMax.cons_cons_of_le (h : LeastArgMax f (b :: l) c) (hbc : b ≤ c') (hle : f c' ≤ f b) :
    LeastArgMax f (b :: c' :: l) c := by
  obtain ⟨hmem, hmax, hleast⟩ := h
  rw [List.forall_mem_cons] at hmax hleast
  obtain ⟨hmaxB, hmaxL⟩ := hmax
  obtain ⟨hleastB, hleastL⟩ := hleast
  refine ⟨List.mem_cons.mpr ((List.mem_cons.mp hmem).imp_right (List.mem_cons_of_mem c')), ?_, ?_⟩
  · exact List.forall_mem_cons.mpr ⟨hmaxB, List.forall_mem_cons.mpr ⟨hle.trans hmaxB, hmaxL⟩⟩
  · exact List.forall_mem_cons.mpr ⟨hleastB, List.forall_mem_cons.mpr
      ⟨fun hlt => hle.trans_lt (hleastB (Nat.lt_of_le_of_lt hbc hlt)), hleastL⟩⟩

end

/-- Scanned in ascending order, a later candidate is preferred only when it is strictly better. -/
theorem scanCandidates_leastArgMax (f : Byte → Nat) (l : List Byte) (best : Byte)
    (hsorted : (best :: l).Pairwise (· ≤ ·)) : LeastArgMax f (best :: l) (scanCandidates f l best) := by
  induction l generalizing best with
  | nil => exact ⟨List.mem_singleton_self best, by simp [scanCandidates], by simp [scanCandidates]⟩
  | cons c rest ih =>
    obtain ⟨hbest, hrest⟩ := List.pairwise_cons.mp hsorted
    obtain ⟨hbc, hbestRest⟩ := List.forall_mem_cons.mp hbest
    by_cases hbetter : f best < f c
    · have hscan : scanCandidates f (c :: rest) best = scanCandidates f rest c := by
        rw [scanCandidates, decide_eq_true hbetter]
      have hc : LeastArgMax f (c :: rest) (scanCandidates f rest c) := ih c hrest
      rw [hscan]
      exact hc.cons_of_lt (hbetter.trans_le (hc.le_max c List.mem_cons_self))
    · have hscan : scanCandidates f (c :: rest) best = scanCandidates f rest best := by
        rw [scanCandidates, decide_eq_false hbetter]
      rw [hscan]
      exact (ih best (List.pairwise_cons.mpr ⟨hbestRest, hrest.tail⟩)).cons_cons_of_le hbc (not_lt.mp hbetter)

/-! ### The selection (R184, R191) -/

theorem candidates_sorted : candidates.Pairwise (· ≤ ·) :=
  List.pairwise_ofFn.mpr fun _ _ hlt => hlt.le

theorem mem_candidates (c : Byte) : c ∈ candidates := List.mem_ofFn.mpr ⟨c.toFin, rfl⟩

section
variable (cnt : Vector Word 256) (n : Word)

theorem selectCandidate_leastArgMax :
    LeastArgMax (fun c => dev2 (cnt.get c.toFin) n) (0x00#8 :: candidates) (selectCandidate cnt n) :=
  scanCandidates_leastArgMax _ candidates 0x00#8
    (List.pairwise_cons.mpr ⟨fun c _ => Nat.zero_le c.toNat, candidates_sorted⟩)

theorem selectCandidate_spec :
    (∀ c : Byte, dev2 (cnt.get c.toFin) n ≤ dev2 (cnt.get (selectCandidate cnt n).toFin) n) ∧
      ∀ c : Byte, c.toNat < (selectCandidate cnt n).toNat →
        dev2 (cnt.get c.toFin) n < dev2 (cnt.get (selectCandidate cnt n).toFin) n := by
  obtain ⟨-, hmax, hleast⟩ := selectCandidate_leastArgMax cnt n
  exact ⟨fun c => hmax c (List.mem_cons_of_mem _ (mem_candidates c)),
    fun c => hleast c (List.mem_cons_of_mem _ (mem_candidates c))⟩

end

/-- Settles O51: the scan meets every candidate, and its description determines one of them. -/
theorem selectionIsLeastArgMax : Obligations.SelectionIsLeastArgMax := by
  intro cnt n c
  constructor
  · rintro rfl
    exact selectCandidate_spec cnt n
  · rintro ⟨hmax, hleast⟩
    exact (selectCandidate_leastArgMax cnt n).unique
      ⟨List.mem_cons_of_mem _ (mem_candidates c), fun x _ => hmax x, fun x _ => hleast x⟩

section
variable {cnt : Vector Word 256} {n : Word}

/-- Where no candidate deviates more than 0x00, it is the selection. -/
theorem selectCandidate_eq_zero (h : ∀ c : Byte, dev2 (cnt.get c.toFin) n ≤ dev2 (cnt.get (0x00#8).toFin) n) :
    selectCandidate cnt n = 0x00#8 :=
  (selectionIsLeastArgMax cnt n 0x00).mpr ⟨h, fun _ hneg => absurd hneg (Nat.not_lt_zero _)⟩

/-- The selection sees the counters through `dev2` only. -/
theorem selectCandidate_congr {cnt' : Vector Word 256}
    (h : ∀ c : Byte, dev2 (cnt'.get c.toFin) n = dev2 (cnt.get c.toFin) n) :
    selectCandidate cnt' n = selectCandidate cnt n := by
  rw [selectionIsLeastArgMax]
  simp only [h]
  exact selectCandidate_spec cnt n

end

theorem dev2_one {count : Word} (h : count.toNat ≤ (1 : Word).toNat) : dev2 count 1 = 1 := by
  have hone : (1 : Word).toNat = 1 := rfl
  rw [dev2, hone]
  omega

/-- Settles O52: `RECOV` answers the selection, which reads neither `CAND` nor `RESV`. -/
theorem recovSelectsCandidate : Obligations.RecovSelectsCandidate := by
  refine ⟨formatZ_of_decodeFields rfl, fun s hn => exec_recov_of_empty hn, fun s hn => ⟨selectCandidate s.cnt s.n,
    exec_recov_of_ne hn, exec_recov_of_ne (s := s.setResult (selectCandidate s.cnt s.n)) hn, ?_, ?_, ?_, ?_⟩⟩
  · simp only [← dev2_cast, Nat.cast_le]
    exact (selectCandidate_spec s.cnt s.n).1
  · simp only [← dev2_cast, Nat.cast_lt]
    exact (selectCandidate_spec s.cnt s.n).2
  · intro hone hle
    refine selectCandidate_eq_zero fun x => ?_
    rw [hone] at hle ⊢
    exact ((dev2_one (hle x)).trans (dev2_one (hle 0x00)).symm).le
  · intro hequal
    exact selectCandidate_eq_zero fun x => by rw [hequal x 0x00#8]

/-- Counting the other outcome turns `2 * CNT - N` into its negative. -/
theorem dev2_complement {count n : Word} (h : count.toNat ≤ n.toNat) : dev2 (n - count) n = dev2 count n := by
  rw [dev2, dev2, BitVec.toNat_sub_of_le h]
  omega

/-- Settles O56: no deviation changes, so neither does the selection. -/
theorem polarityDoesNotMatter : Obligations.PolarityDoesNotMatter := by
  intro cnt cnt' n h
  have hdev (c : Byte) : dev2 (cnt'.get c.toFin) n = dev2 (cnt.get c.toFin) n := by
    obtain ⟨hle, hcomplement⟩ := h c
    rw [hcomplement, dev2_complement hle]
  exact ⟨hdev, selectCandidate_congr hdev⟩

end Sys2Proof.Machine
end

section
/-! SUPPORT. Operand moves and reads of `A`, `P` and `STATUS` (47_data_and_read.md R200 to R205), and the commands that
write `A`: all of them end with `okA` or fail. -/
namespace Sys2Proof.Machine
open Sys2Proof.Claims

/-! ### One equation per case -/

section
variable (s : State)

theorem exec_mvp : exec .mvp s = ok 0 (s.setP s.a) := rfl

theorem exec_rda : exec .rda s = ok (s.a.setWidth 32) s := rfl

theorem exec_rdp : exec .rdp s = ok (s.p.setWidth 32) s := rfl

theorem exec_rdst : exec .rdst s = ok s.status s := rfl

variable {imm24 : BitVec 24}

theorem exec_lda_of_le (h : imm24.toNat ≤ 0xFFFF) : exec (.lda imm24) s = okA (imm24.setWidth 16) s :=
  if_pos ((fits16_iff imm24).mpr h)

theorem exec_lda_of_wide (h : 0xFFFF < imm24.toNat) : exec (.lda imm24) s = fail .invalidBlockSize s :=
  if_neg (mt (fits16_iff imm24).mp (Nat.not_le.mpr h))

theorem exec_ldp_of_le (h : imm24.toNat ≤ 0xFFFF) : exec (.ldp imm24) s = ok 0 (s.setP (imm24.setWidth 16)) :=
  if_pos ((fits16_iff imm24).mpr h)

theorem exec_ldp_of_wide (h : 0xFFFF < imm24.toNat) : exec (.ldp imm24) s = fail .invalidBlockSize s :=
  if_neg (mt (fits16_iff imm24).mp (Nat.not_le.mpr h))

end

/-! ### `LDA`, `LDP`, `MVP`, `RDP` (R200 to R202, R204) -/

/-- A value that fits a block survives being cut to one. -/
theorem setWidth_setWidth16_of_le {imm24 : BitVec 24} (h : imm24.toNat ≤ 0xFFFF) :
    (imm24.setWidth 16).setWidth 32 = imm24.setWidth 32 := by
  have hfits : imm24.toNat % 2 ^ 16 = imm24.toNat := Nat.mod_eq_of_lt (by omega)
  exact BitVec.eq_of_toNat_eq (by simp only [BitVec.toNat_setWidth, hfits])

/-- Settles O21: the range check decides, and a value within the range is returned as it came. -/
theorem ldaLoadsBlock : Obligations.LdaLoadsBlock := by
  refine ⟨formatI_of_decodeFields rfl, fun s imm24 hle => ?_, fun s _ hwide => exec_lda_of_wide s hwide⟩
  rw [exec_lda_of_le s hle, okA_eq_answers, setWidth_setWidth16_of_le hle]

/-- Settles O22: as `LDA`, into `P` and with data 0. -/
theorem ldpLoadsPlaintext : Obligations.LdpLoadsPlaintext :=
  ⟨formatI_of_decodeFields rfl, fun s _ hle => exec_ldp_of_le s hle, fun s _ hwide => exec_ldp_of_wide s hwide⟩

/-- Settles O23: one write of `P` and two reads, and after the write `RDP` reads what `A` held. -/
theorem mvpRdaRdpCommands : Obligations.MvpRdaRdpCommands :=
  ⟨formatZ_of_decodeFields rfl, formatZ_of_decodeFields rfl, formatZ_of_decodeFields rfl, exec_mvp, exec_rda,
    exec_rdp, fun s => ⟨_, exec_mvp s, exec_rdp _⟩, exec_rdp State.reset⟩

/-! ### The commands that write `A` (R203) -/

/-- The opcodes of `LDA`, `XORK`, `SUBF`, `SUBI`, `PERM`, `ENC` and `DEC`. -/
def writersOfA : List (BitVec 8) := [0x01#8, 0x20#8, 0x21#8, 0x22#8, 0x23#8, 0x24#8, 0x25#8]

/-- A command that writes `A` returns the new `A` or fails. -/
theorem exec_of_mem_writersOfA {i : Instr} (hi : opcode i ∈ writersOfA) (s : State) :
    (∃ v, exec i s = okA v s) ∨ ∃ e, exec i s = fail e s := by
  cases i with
  | subf => exact .inl ⟨_, exec_subf s⟩
  | subi => exact .inl ⟨_, exec_subi s⟩
  | perm => exact .inl ⟨_, exec_perm s⟩
  | lda | enc | dec => exact (ite_eq_or_eq ..).imp (⟨_, ·⟩) (⟨_, ·⟩)
  | xork r =>
    simp only [exec, execXork]
    cases subkeyIndex r with
    | none => exact .inr ⟨_, rfl⟩
    | some j => exact (ite_eq_or_eq ..).imp (⟨_, ·⟩) (⟨_, ·⟩)
  | _ => exact absurd hi (of_decide_eq_false rfl)

/-- No other command has a write of `A` among its writes. -/
theorem written_keeps_a {i : Instr} (hi : opcode i ∉ writersOfA) (s : State) : (written i s).a = s.a := by
  cases i with
  | lda | xork | subf | subi | perm | enc | dec => exact absurd (of_decide_eq_true rfl) hi
  | kset r =>
    simp only [written]
    cases subkeyIndex r with
    | none | some => rfl
  | _ => rfl

theorem exec_keeps_a {i : Instr} {s t : State} (h : exec i s = .next t) (hi : opcode i ∉ writersOfA) : t.a = s.a := by
  obtain ⟨data, rfl⟩ | ⟨e, rfl⟩ := exec_next h
  · exact written_keeps_a hi s
  · exact State.failed_a s e

/-- The code tells a success from a failure, so the data of a response of code 0 is what `okA` returned. -/
theorem data_eq_of_mem_writersOfA {i : Instr} {s t : State} {data : Word} (hi : opcode i ∈ writersOfA)
    (h : exec i s = .next t) (hout : t.output = s.output ++ [⟨0, data⟩]) : data = t.a.setWidth 32 := by
  obtain ⟨v, hok⟩ | ⟨e, hfail⟩ := exec_of_mem_writersOfA hi s
  · obtain rfl := okA_next (hok ▸ h)
    have hdata : v.setWidth 32 = data := by simpa using hout
    exact hdata.symm
  · obtain rfl := fail_next (hfail ▸ h)
    have hresponse : e.code = 0 ∧ 0 = data := by simpa using hout
    exact absurd hresponse.left (code_ne_zero e)

/-- Settles O18: a success of a writer of `A` returned the `A` that `RDA` reads. -/
theorem commandsThatWriteAReturnIt : Obligations.CommandsThatWriteAReturnIt := by
  refine ⟨formatZ_of_decodeFields rfl, exec_rda, exec_rda State.reset, fun i s t data hi h hout => ?_,
    fun i s t h hi => exec_keeps_a h hi⟩
  have hdata : data = t.a.setWidth 32 := data_eq_of_mem_writersOfA hi h hout
  exact ⟨hdata, hdata ▸ exec_rda t⟩

/-! ### `RDST` (R205, 10_state.md R36) -/

theorem getLsbD_flagAt (b : Bool) (i j : Nat) :
    (flagAt b i).getLsbD j = (decide (j < 32) && decide (j = i) && b) := by
  simp only [flagAt, BitVec.getLsbD_shiftLeft, BitVec.getLsbD_setWidth, BitVec.getLsbD_ofBool]
  grind

/-- The flags below bit 8, then the two shifted registers. -/
theorem getLsbD_status (s : State) {j : Nat} (hj : j < 32) :
    s.status.getLsbD j =
      ((decide (j = 0) && s.kv.get 0 || decide (j = 1) && s.kv.get 1 || decide (j = 2) && s.kv.get 2 ||
          decide (j = 3) && s.kv.get 3 || decide (j = 4) && s.kv.get 4 || decide (j = 5) && s.latv ||
          decide (j = 6) && s.resv) ||
        decide (8 ≤ j) && s.err.getLsbD (j - 8) || decide (16 ≤ j) && s.seedLen.getLsbD (j - 16)) := by
  simp only [State.status, BitVec.getLsbD_or, getLsbD_flagAt, BitVec.getLsbD_shiftLeft, BitVec.getLsbD_setWidth, hj,
    decide_true, Bool.true_and]
  grind

theorem status_flags (s : State) :
    (∀ i : Fin 5, s.status.getLsbD i = s.kv.get i) ∧ s.status.getLsbD 5 = s.latv ∧ s.status.getLsbD 6 = s.resv ∧
      s.status.getLsbD 7 = false := by
  refine ⟨?_, ?_, ?_, ?_⟩
  · intro i
    rw [getLsbD_status s (by omega)]
    fin_cases i <;> simp
  all_goals
    rw [getLsbD_status s (by decide)]
    simp

theorem extractLsb'_status (s : State) :
    s.status.extractLsb' 8 4 = s.err ∧ s.status.extractLsb' 12 4 = 0#4 ∧ s.status.extractLsb' 16 7 = s.seedLen ∧
      s.status.extractLsb' 23 9 = 0#9 := by
  refine ⟨?_, ?_, ?_, ?_⟩
  all_goals
    refine BitVec.eq_of_getLsbD_eq fun i hi => ?_
    rw [BitVec.getLsbD_extractLsb', getLsbD_status s (by omega)]
    grind

/-- Settles O19: no two fields of the view overlap, so each slice of it is one of them. -/
theorem rdstReturnsStatus : Obligations.RdstReturnsStatus := by
  refine ⟨formatZ_of_decodeFields rfl, fun s => ⟨s.status, exec_rdst s, ?_⟩, ?_⟩
  · obtain ⟨hkv, hlatv, hresv, hzero⟩ := status_flags s
    exact ⟨hkv, hlatv, hresv, hzero, extractLsb'_status s⟩
  · rw [exec_rdst, show State.reset.status = 0x00000000 by decide, ok_eq_answers]

end Sys2Proof.Machine
end

section
/-! SUPPORT. Failures (60_exceptions.md R230 to R243): how every word is answered, which cause raises which code, and
what `ERR` holds after a run. -/
namespace Sys2Proof.Machine
open Sys2Proof.Claims

/-! ### One response to every word (R230, R240) -/

/-- The writes of a command leave the ports and `ERR` to its end. -/
theorem written_keeps_ports (i : Instr) (s : State) :
    (written i s).input = s.input ∧ (written i s).output = s.output ∧ (written i s).err = s.err := by
  cases i with
  | kset r | xork r =>
    simp only [written]
    cases subkeyIndex r with
    | none | some => exact ⟨rfl, rfl, rfl⟩
  | _ => exact ⟨rfl, rfl, rfl⟩

/-- `t` is a state that a word, taken off the port in `s`, leaves with the one response `r` (R230, R240). -/
structure Answered (s t : State) (r : Response) : Prop where
  input_eq : t.input = s.input
  output_eq : t.output = s.output ++ [r]
  code_le : r.code.toNat ≤ 7
  of_failure : r.code ≠ 0 →
    r.data = 0 ∧ t = { s with output := t.output, err := if s.err = 0 then r.code else s.err }
  of_success : r.code = 0 → t.err = s.err

theorem code_toNat_le (e : FailKind) : e.code.toNat ≤ 7 := by cases e <;> decide

theorem answered_failed (e : FailKind) (s : State) : Answered s (s.failed e) ⟨e.code, 0⟩ where
  input_eq := rfl
  output_eq := rfl
  code_le := code_toNat_le e
  of_failure _ := ⟨rfl, rfl⟩
  of_success h := absurd h (code_ne_zero e)

theorem answered_written (i : Instr) (data : Word) (s : State) :
    Answered s ((written i s).respond ⟨0, data⟩) ⟨0, data⟩ := by
  obtain ⟨hinput, houtput, herr⟩ := written_keeps_ports i s
  exact
    { input_eq := hinput
      output_eq := by rw [State.respond_output, houtput]
      code_le := Nat.zero_le 7
      of_failure := fun h => absurd rfl h
      of_success := fun _ => herr }

/-- Whatever the decoder answers, handling it gives one response: a command succeeds with its writes or fails, and an
illegal word fails. -/
theorem handleDecoded_answered (d : Decoded) (s : State) :
    ∃ t r, handleDecoded d s = .next t ∧ Answered s t r := by
  cases d with
  | command i =>
    obtain ⟨data, hok⟩ | ⟨e, hfail⟩ := exec_endsIn i s
    · exact ⟨_, _, hok, answered_written i data s⟩
    · exact ⟨_, _, hfail, answered_failed e s⟩
  | illegal why => exact ⟨_, _, rfl, answered_failed .illegalCommand s⟩

theorem step_of_input_eq_command {s : State} {w : Word} {rest : List Event} (h : s.input = .command w :: rest) :
    step s = handleDecoded (decode w) { s with input := rest } := by
  simp only [step, nextEvent_cons h]
  cases decode w <;> rfl

/-- Settles O9: the step handles what the decoder answers for the word, in the state with the word taken. -/
theorem everyCommandAnswersOnce : Obligations.EveryCommandAnswersOnce := by
  intro s w rest hinput
  obtain ⟨t, r, hnext, hanswered⟩ := handleDecoded_answered (decode w) { s with input := rest }
  exact ⟨t, r, (step_of_input_eq_command hinput).trans hnext, hanswered.input_eq, hanswered.output_eq,
    hanswered.code_le, hanswered.of_failure, hanswered.of_success⟩

/-! ### The cause of each code (R232 to R238) -/

/-- A command issued in `s` with this result answers `code`. -/
def AnswersCode (s : State) (code : BitVec 4) (q : Result) : Prop :=
  ∃ t data, q = .next t ∧ t.output = s.output ++ [⟨code, data⟩]

section
variable {s u : State} {data : Word}

theorem AnswersCode.ok (hu : u.output = s.output) : AnswersCode s 0 (ok data u) :=
  ⟨_, data, rfl, by rw [State.respond_output, hu]⟩

theorem AnswersCode.fail (e : FailKind) : AnswersCode s e.code (fail e s) := ⟨_, 0, rfl, rfl⟩

variable {cause check : Prop} [Decidable cause] [Decidable check] {e : FailKind}

/-- A check that holds exactly where the cause of the failure does. -/
theorem AnswersCode.fail_or_ok (hcause : cause ↔ check) (hu : u.output = s.output) :
    AnswersCode s (if cause then e.code else 0) (if check then Machine.fail e s else Machine.ok data u) := by
  by_cases h : check
  · rw [if_pos (hcause.mpr h), if_pos h]
    exact .fail e
  · rw [if_neg (mt hcause.mp h), if_neg h]
    exact .ok hu

/-- A check that holds exactly where the cause of the failure does not. -/
theorem AnswersCode.ok_or_fail (hcause : cause ↔ ¬check) (hu : u.output = s.output) :
    AnswersCode s (if cause then e.code else 0) (if check then Machine.ok data u else Machine.fail e s) := by
  rw [← ite_not check]
  exact .fail_or_ok hcause hu

end

theorem wide_iff_not_fits16 {w : Nat} (x : BitVec w) : x.toNat > 0xFFFF ↔ ¬fits16 x = true := by
  rw [fits16_iff, Nat.not_le]

theorem exists_absent_iff_not_keyComplete (s : State) :
    (∃ i : Fin 5, s.kv.get i = false) ↔ ¬s.keyComplete = true := by
  simp only [keyComplete_iff, not_forall, Bool.not_eq_true]

/-- A subkey number names one index, so some named subkey is absent exactly when that one is. -/
theorem exists_named_absent_iff {r : BitVec 4} {j : Fin 5} (hr : r.toNat = j.val + 1) (s : State) :
    (∃ i : Fin 5, r.toNat = i.val + 1 ∧ s.kv.get i = false) ↔ ¬s.kv.get j = true := by
  rw [Bool.not_eq_true]
  refine ⟨fun ⟨i, hi, habsent⟩ => ?_, fun habsent => ⟨j, hr, habsent⟩⟩
  have hij : i = j := Fin.ext (by omega)
  exact hij ▸ habsent

theorem exists_fin_of_legalSubkey {r : BitVec 4} (hr : legalSubkey r = true) : ∃ j : Fin 5, r.toNat = j.val + 1 := by
  obtain ⟨hlo, hhi⟩ := (legalSubkey_iff r).mp hr
  exact exists_fin_of_legal hlo hhi

/-- A command with legal fields makes at most one check, which is its cause of failure. -/
theorem exec_answersCode {i : Instr} (hi : WellFormed i) (s : State) : AnswersCode s (codeOf i s) (exec i s) := by
  cases i with
  | mvp | kclr | seedc | subf | subi | perm | latb | apxp | rinit | rda | rdp | rdst | rdsf | rdsi | rdpb | rdcnt | rdn
  | rdapx => exact .ok rfl
  | lda imm24 | ldp imm24 => exact .ok_or_fail (wide_iff_not_fits16 imm24) rfl
  | kset r imm20 =>
    obtain ⟨j, hr⟩ := exists_fin_of_legalSubkey hi
    rw [exec_kset hr]
    exact .ok_or_fail (wide_iff_not_fits16 imm20) rfl
  | xork r | rdk r =>
    obtain ⟨j, hr⟩ := exists_fin_of_legalSubkey hi
    simp only [exec_xork hr, exec_rdk hr]
    exact .ok_or_fail (exists_named_absent_iff hr s) rfl
  | enc | dec => exact .ok_or_fail (exists_absent_iff_not_keyComplete s) rfl
  | apxu thi tlo umask =>
    rw [exec_apxu_of_ne s ((distinctUnits_iff thi tlo).mp hi)]
    exact .ok rfl
  | rdlat | rdcand => exact .ok_or_fail Bool.eq_false_iff rfl
  | seedb => exact .fail_or_ok (BitVec.toNat_inj (y := 64)) rfl
  | kgen | recov | rddev => exact .fail_or_ok Iff.rfl rfl
  | smp => exact .fail_or_ok (BitVec.toNat_inj (y := 0xFFFFFFFF)) rfl

/-- Settles O10: the cause of `codeOf` is the check of the command, and a word that is no command is an illegal one. -/
theorem failureCausesExactly : Obligations.FailureCausesExactly := by
  refine ⟨fun i s hi => exec_answersCode hi s, fun w s hnone => ?_⟩
  rw [onWord_eq_handleDecoded]
  cases hw : decode w with
  | command i => exact absurd hw (hnone i)
  | illegal why => rfl

/-! ### `ERR` after a run (R243) -/

theorem firstFailure_eq_zero_iff (rs : List Response) : firstFailure rs = 0 ↔ ∀ r ∈ rs, r.code = 0 := by
  induction rs with
  | nil => simp [firstFailure]
  | cons r rs ih =>
    rw [firstFailure, List.forall_mem_cons]
    split
    case isTrue hzero => simp only [ih, hzero, true_and]
    case isFalse hne => simp only [hne, false_and]

theorem ite_err_zero (err : BitVec 4) : (if err = 0 then 0 else err) = err := ite_eq_right_iff.mpr Eq.symm

/-- After a success or a failure, `ERR` keeps a recorded code and else takes the code of the response. -/
theorem Answered.err_eq {s t : State} {r : Response} (h : Answered s t r) :
    t.err = if s.err = 0 then r.code else s.err := by
  by_cases hcode : r.code = 0
  · rw [h.of_success hcode, hcode]
    exact (ite_err_zero s.err).symm
  · obtain ⟨-, ht⟩ := h.of_failure hcode
    exact congrArg State.err ht

theorem after_present_command_answered (w : Word) (s : State) :
    ∃ r, Answered s (after (s.present (.command w))) r := by
  obtain ⟨t, r, hnext, hanswered⟩ := handleDecoded_answered (decode w) s
  have hstep : step (s.present (.command w)) = .next t := (onWord_eq_handleDecoded w s).trans hnext
  exact ⟨r, by rwa [after, hstep]⟩

/-- The responses of a run of words, and the code it leaves in `ERR`, from any `ERR` to begin with. -/
theorem run_words (ws : List Word) (s : State) :
    ∃ rs : List Response, (run (words ws) s).output = s.output ++ rs ∧ rs.length = ws.length ∧
      (run (words ws) s).err = if s.err = 0 then firstFailure rs else s.err := by
  induction ws generalizing s with
  | nil => exact ⟨[], (List.append_nil _).symm, rfl, (ite_err_zero s.err).symm⟩
  | cons w ws ih =>
    obtain ⟨r, hanswered⟩ := after_present_command_answered w s
    obtain ⟨rs, houtput, hlength, herr⟩ := ih (after (s.present (.command w)))
    refine ⟨r :: rs, ?_, congrArg (· + 1) hlength, ?_⟩
    · calc (run (words ws) (after (s.present (.command w)))).output
        _ = (s.output ++ [r]) ++ rs := by rw [houtput, hanswered.output_eq]
        _ = s.output ++ r :: rs := (List.append_cons ..).symm
    · change (run (words ws) (after (s.present (.command w)))).err = _
      rw [herr, hanswered.err_eq, firstFailure]
      by_cases hs : s.err = 0
      · simp only [hs, if_true]
      · simp only [hs, if_false]

/-- Settles O11: `ERR` after the run is one `if` over the responses, and the first failure is 0 when there is none. -/
theorem errRecordsFirstFailure : Obligations.ErrRecordsFirstFailure := by
  intro ws s
  obtain ⟨rs, houtput, hlength, herr⟩ := run_words ws s
  refine ⟨rs, houtput, hlength, fun hzero => ?_, fun hne => herr.trans (if_neg hne)⟩
  have hfirst : (run (words ws) s).err = firstFailure rs := herr.trans (if_pos hzero)
  exact ⟨hfirst, hfirst ▸ firstFailure_eq_zero_iff rs⟩

end Sys2Proof.Machine
end

section
/-! SUPPORT. The reset state (70_reset_and_hazards.md R261), its arrays entry by entry and its two views. -/
namespace Sys2Proof.Machine
open Sys2Proof.Claims

@[simp] theorem State.reset_k_get (i : Fin 5) : State.reset.k.get i = 0x0000 := get_replicate 0x0000#16 i

@[simp] theorem State.reset_kv_get (i : Fin 5) : State.reset.kv.get i = false := get_replicate false i

@[simp] theorem State.reset_cnt_get (c : Fin 256) : State.reset.cnt.get c = 0 := get_replicate 0#32 c

theorem exec_rdst_reset : exec .rdst State.reset = .next (answers 0 0x00000000 State.reset) := by
  obtain ⟨-, -, hview⟩ := rdstReturnsStatus
  exact hview

theorem exec_rdapx_reset : exec .rdapx State.reset = .next (answers 0 0x00000400 State.reset) := by
  obtain ⟨-, -, hview⟩ := rdapxReturnsApproximation
  exact hview

/-- Settles O8: the registers hold their values as written, the arrays in every entry, and the two views are those that
`RDST` and `RDAPX` return at reset. -/
theorem resetStateValues : Obligations.ResetStateValues := by
  have hkeys (i : Fin 5) : State.reset.k.get i = 0x0000 ∧ State.reset.kv.get i = false :=
    ⟨State.reset_k_get i, State.reset_kv_get i⟩
  exact ⟨rfl, rfl, hkeys, rfl, rfl, State.reset_cnt_get, rfl, rfl, rfl, rfl, rfl, rfl, rfl, rfl, exec_rdst_reset,
    exec_rdapx_reset⟩

end Sys2Proof.Machine
end

section
/-! SUPPORT. Commands and words determine each other (30_encoding.md, sections 1 to 5): what the decoder answers for the
word of a command, which words it answers with a command, and that these are the words of the opcode table. -/
namespace Sys2Proof.Machine
open Sys2Proof.Claims

/-! ### From a command to its word and back -/

/-- The encoder lays the operands out as the format's decoder reads them, with the reserved bits zero. -/
theorem decode_encode {i : Instr} (hi : WellFormed i) : decode (encode i) = .command i := by
  rw [encode, decode_append]
  cases i with
  | lda | ldp => rfl
  | kset r imm20 => exact (decodeK_append .kset r imm20).trans (if_pos hi)
  | xork r => exact (decodeR_append .xork r 0).trans ((if_pos rfl).trans (if_pos hi))
  | rdk r => exact (decodeR_append .rdk r 0).trans ((if_pos rfl).trans (if_pos hi))
  | seedb imm8 => exact (decodeB_append .seedb 0 imm8).trans (if_pos rfl)
  | rdcnt imm8 => exact (decodeB_append .rdcnt 0 imm8).trans (if_pos rfl)
  | rddev imm8 => exact (decodeB_append .rddev 0 imm8).trans (if_pos rfl)
  | apxp imm16 => exact (decodeH_append .apxp 0 imm16).trans (if_pos rfl)
  | apxu thi tlo umask =>
    exact (decodeU_append .apxu 0 thi tlo umask).trans ((if_pos rfl).trans (if_pos hi))
  | rdsf x => exact (decodeX_append .rdsf 0 x).trans (if_pos rfl)
  | rdsi x => exact (decodeX_append .rdsi 0 x).trans (if_pos rfl)
  | rdpb x => exact (decodeX_append .rdpb 0 x).trans (if_pos rfl)
  | rdlat a b => exact (decodeL_append .rdlat 0 a b).trans (if_pos rfl)
  | _ => rfl

/-- Settles O1: each format's decoder reads back the fields that the encoder laid out. -/
theorem decodeEncodeRoundTrip : Obligations.DecodeEncodeRoundTrip := fun _ hi => decode_encode hi

/-! ### What a format's decoder accepts (R81 to R89) -/

/-- Every bit vector is the concatenation of its high and its low bits. -/
theorem exists_eq_append (n m : Nat) (x : BitVec (n + m)) : ∃ (hi : BitVec n) (lo : BitVec m), x = hi ++ lo :=
  ⟨x.extractLsb' m n, x.extractLsb' 0 m, ((BitVec.extractLsb'_append_extractLsb'_eq_extractLsb'
    (Nat.zero_add m).symm).trans BitVec.extractLsb'_eq_self).symm⟩

/-- A check of the decoder lets a command through only when it holds. -/
theorem ite_illegal_eq_command {c : Prop} [Decidable c] {d : Decoded} {why : IllegalWord} {i : Instr} :
    (if c then d else .illegal why) = .command i ↔ c ∧ d = .command i := by
  split
  case isTrue hc => simp only [hc, true_and]
  case isFalse hc => simp only [hc, false_and, reduceCtorEq]

section
variable {o : BitVec 24} {i : Instr}

theorem decodeZ_eq_command {c : Instr} (h : decodeZ c o = .command i) : i = c ∧ o = 0#24 := by
  rw [decodeZ, ite_illegal_eq_command, Decoded.command.injEq] at h
  obtain ⟨rfl, rfl⟩ := h
  exact ⟨rfl, rfl⟩

theorem decodeI_eq_command {c : BitVec 24 → Instr} (h : decodeI c o = .command i) : i = c o :=
  (Decoded.command.inj h).symm

theorem decodeH_eq_command {c : BitVec 16 → Instr} (h : decodeH c o = .command i) :
    ∃ imm16, i = c imm16 ∧ o = 0#8 ++ imm16 := by
  obtain ⟨z, imm16, rfl⟩ := exists_eq_append 8 16 o
  rw [decodeH_append, ite_illegal_eq_command, Decoded.command.injEq] at h
  obtain ⟨rfl, rfl⟩ := h
  exact ⟨imm16, rfl, rfl⟩

theorem decodeK_eq_command {c : BitVec 4 → BitVec 20 → Instr} (h : decodeK c o = .command i) :
    ∃ r imm20, legalSubkey r ∧ i = c r imm20 ∧ o = r ++ imm20 := by
  obtain ⟨r, imm20, rfl⟩ := exists_eq_append 4 20 o
  rw [decodeK_append, ite_illegal_eq_command, Decoded.command.injEq] at h
  obtain ⟨hr, rfl⟩ := h
  exact ⟨r, imm20, hr, rfl, rfl⟩

theorem decodeR_eq_command {c : BitVec 4 → Instr} (h : decodeR c o = .command i) :
    ∃ r, legalSubkey r ∧ i = c r ∧ o = r ++ 0#20 := by
  obtain ⟨r, z, rfl⟩ := exists_eq_append 4 20 o
  rw [decodeR_append, ite_illegal_eq_command, ite_illegal_eq_command, Decoded.command.injEq] at h
  obtain ⟨rfl, hr, rfl⟩ := h
  exact ⟨r, hr, rfl, rfl⟩

theorem decodeB_eq_command {c : Byte → Instr} (h : decodeB c o = .command i) :
    ∃ imm8, i = c imm8 ∧ o = 0#16 ++ imm8 := by
  obtain ⟨z, imm8, rfl⟩ := exists_eq_append 16 8 o
  rw [decodeB_append, ite_illegal_eq_command, Decoded.command.injEq] at h
  obtain ⟨rfl, rfl⟩ := h
  exact ⟨imm8, rfl, rfl⟩

theorem decodeX_eq_command {c : Nibble → Instr} (h : decodeX c o = .command i) :
    ∃ x, i = c x ∧ o = 0#20 ++ x := by
  obtain ⟨z, x, rfl⟩ := exists_eq_append 20 4 o
  rw [decodeX_append, ite_illegal_eq_command, Decoded.command.injEq] at h
  obtain ⟨rfl, rfl⟩ := h
  exact ⟨x, rfl, rfl⟩

theorem decodeL_eq_command {c : Nibble → Nibble → Instr} (h : decodeL c o = .command i) :
    ∃ a b, i = c a b ∧ o = 0#16 ++ a ++ b := by
  obtain ⟨za, b, rfl⟩ := exists_eq_append 20 4 o
  obtain ⟨z, a, rfl⟩ := exists_eq_append 16 4 za
  rw [decodeL_append, ite_illegal_eq_command, Decoded.command.injEq] at h
  obtain ⟨rfl, rfl⟩ := h
  exact ⟨a, b, rfl, rfl⟩

theorem decodeU_eq_command {c : BitVec 2 → BitVec 2 → Byte → Instr} (h : decodeU c o = .command i) :
    ∃ thi tlo umask, distinctUnits thi tlo ∧ i = c thi tlo umask ∧ o = 0#12 ++ thi ++ tlo ++ umask := by
  obtain ⟨ztt, umask, rfl⟩ := exists_eq_append 16 8 o
  obtain ⟨zt, tlo, rfl⟩ := exists_eq_append 14 2 ztt
  obtain ⟨z, thi, rfl⟩ := exists_eq_append 12 2 zt
  rw [decodeU_append, ite_illegal_eq_command, ite_illegal_eq_command, Decoded.command.injEq] at h
  obtain ⟨rfl, hunits, rfl⟩ := h
  exact ⟨thi, tlo, umask, hunits, rfl, rfl⟩

end

/-! ### From a word to its command and back -/

/-- Each arm of the opcode map answers only commands of its own opcode, and its format's decoder only those whose
operand field it was given. -/
theorem decodeFields_eq_command {op : BitVec 8} {o : BitVec 24} {i : Instr}
    (h : decodeFields op o = .command i) : WellFormed i ∧ opcode i = op ∧ operandField i = o := by
  rw [← BitVec.toNat_inj]
  unfold decodeFields at h
  split at h
  case h_34 => cases h
  all_goals
    rename_i hop
  case h_1 | h_2 =>
    obtain rfl := decodeI_eq_command h
    exact ⟨rfl, hop.symm, rfl⟩
  case h_4 =>
    obtain ⟨r, imm20, hr, rfl, rfl⟩ := decodeK_eq_command h
    exact ⟨hr, hop.symm, rfl⟩
  case h_9 | h_23 =>
    obtain ⟨r, hr, rfl, rfl⟩ := decodeR_eq_command h
    exact ⟨hr, hop.symm, rfl⟩
  case h_6 | h_29 | h_32 =>
    obtain ⟨imm8, rfl, rfl⟩ := decodeB_eq_command h
    exact ⟨rfl, hop.symm, rfl⟩
  case h_16 =>
    obtain ⟨imm16, rfl, rfl⟩ := decodeH_eq_command h
    exact ⟨rfl, hop.symm, rfl⟩
  case h_17 =>
    obtain ⟨thi, tlo, umask, hunits, rfl, rfl⟩ := decodeU_eq_command h
    exact ⟨hunits, hop.symm, rfl⟩
  case h_25 | h_26 | h_27 =>
    obtain ⟨x, rfl, rfl⟩ := decodeX_eq_command h
    exact ⟨rfl, hop.symm, rfl⟩
  case h_28 =>
    obtain ⟨a, b, rfl, rfl⟩ := decodeL_eq_command h
    exact ⟨rfl, hop.symm, rfl⟩
  all_goals
    obtain ⟨rfl, rfl⟩ := decodeZ_eq_command h
    exact ⟨rfl, hop.symm, rfl⟩

theorem wellFormed_and_encode_of_decode {w : Word} {i : Instr} (h : decode w = .command i) :
    WellFormed i ∧ encode i = w := by
  obtain ⟨op, o, rfl⟩ := exists_eq_append 8 24 w
  rw [decode_append] at h
  obtain ⟨hi, rfl, rfl⟩ := decodeFields_eq_command h
  exact ⟨hi, rfl⟩

/-- Settles O2: a word is its opcode and its operand field, and the decoder answers a command with both. -/
theorem encodeDecodeRoundTrip : Obligations.EncodeDecodeRoundTrip := fun _ _ => wellFormed_and_encode_of_decode

/-- Settles O5: the decoder, run on each word. -/
theorem writtenOutWordsDecode : Obligations.WrittenOutWordsDecode := by
  unfold Obligations.WrittenOutWordsDecode
  decide

end Sys2Proof.Machine
end

section
/-! SUPPORT. The decoder agrees with opcode_table.json (95_test_vectors.md, V-EN-5): a mask leaves of a word its opcode
and the reserved bits of its format, and the constraints are the checks that a mask cannot express. -/
namespace Sys2Proof.Machine
open Sys2Proof.Claims Sys2Proof.Laws

/-! ### A command's word selects the command's row -/

theorem encodesTableRow (i : Instr) : EncodesTableRow.Statement i := by
  cases i with
  | lda imm24 => exact EncodesTableRow.lda imm24
  | ldp imm24 => exact EncodesTableRow.ldp imm24
  | kset r imm20 => exact EncodesTableRow.kset r imm20
  | seedb imm8 => exact EncodesTableRow.seedb imm8
  | xork r => exact EncodesTableRow.xork r
  | apxp imm16 => exact EncodesTableRow.apxp imm16
  | apxu thi tlo umask => exact EncodesTableRow.apxu thi tlo umask
  | rdk r => exact EncodesTableRow.rdk r
  | rdsf x => exact EncodesTableRow.rdsf x
  | rdsi x => exact EncodesTableRow.rdsi x
  | rdpb x => exact EncodesTableRow.rdpb x
  | rdlat a b => exact EncodesTableRow.rdlat a b
  | rdcnt imm8 => exact EncodesTableRow.rdcnt imm8
  | rddev imm8 => exact EncodesTableRow.rddev imm8
  | _ => rfl

theorem tableRow_mem_rows (i : Instr) : tableRow i ∈ rows := by
  cases i with
  | _ => exact of_decide_eq_true rfl

/-- The `r` field of a word of format K or R. -/
theorem extractLsb'_subkeyField (op : BitVec 8) (r : BitVec 4) (z : BitVec 20) :
    (op ++ (r ++ z : BitVec 24)).extractLsb' 20 4 = r :=
  calc (op ++ (r ++ z : BitVec 24)).extractLsb' 20 4
    _ = (r ++ z).extractLsb' 20 4 := BitVec.extractLsb'_append_eq_of_add_le (by decide)
    _ = r := BitVec.extractLsb'_append_eq_left

section
variable (op umask : BitVec 8) (z : BitVec 12) (thi tlo : BitVec 2)

/-- The `thi` field of a word of format U. -/
theorem extractLsb'_hiUnitField : (op ++ (z ++ thi ++ tlo ++ umask : BitVec 24)).extractLsb' 10 2 = thi :=
  calc (op ++ (z ++ thi ++ tlo ++ umask : BitVec 24)).extractLsb' 10 2
    _ = (z ++ thi ++ tlo ++ umask).extractLsb' 10 2 := BitVec.extractLsb'_append_eq_of_add_le (by decide)
    _ = (z ++ thi ++ tlo).extractLsb' 2 2 := BitVec.extractLsb'_append_eq_of_le (by decide)
    _ = (z ++ thi).extractLsb' 0 2 := BitVec.extractLsb'_append_eq_of_le (by decide)
    _ = thi := BitVec.extractLsb'_append_eq_right

/-- The `tlo` field of a word of format U. -/
theorem extractLsb'_loUnitField : (op ++ (z ++ thi ++ tlo ++ umask : BitVec 24)).extractLsb' 8 2 = tlo :=
  calc (op ++ (z ++ thi ++ tlo ++ umask : BitVec 24)).extractLsb' 8 2
    _ = (z ++ thi ++ tlo ++ umask).extractLsb' 8 2 := BitVec.extractLsb'_append_eq_of_add_le (by decide)
    _ = (z ++ thi ++ tlo).extractLsb' 0 2 := BitVec.extractLsb'_append_eq_of_le (by decide)
    _ = tlo := BitVec.extractLsb'_append_eq_right

end

/-- Legal fields meet the constraints of the command's row; the other rows have none. -/
theorem constraint_encode {i : Instr} (hi : WellFormed i) : constraint (tableRow i).1 (encode i) := by
  cases i with
  | kset r _ | xork r | rdk r =>
    refine ⟨fun _ => ?_, fun h => absurd h (of_decide_eq_false rfl)⟩
    rw [encode, operandField, extractLsb'_subkeyField]
    exact (legalSubkey_iff r).mp hi
  | apxu thi tlo umask =>
    refine ⟨fun h => absurd h (of_decide_eq_false rfl), fun _ => ?_⟩
    rw [encode, operandField, extractLsb'_hiUnitField, extractLsb'_loUnitField]
    exact (distinctUnits_iff thi tlo).mp hi
  | _ => exact ⟨fun h => absurd h (of_decide_eq_false rfl), fun h => absurd h (of_decide_eq_false rfl)⟩

/-! ### A word that selects a row and meets its constraints is a command -/

/-- The bits of a word that a mask selects are those of the value it selects. -/
theorem extractLsb'_of_masked {n a l : Nat} {w m v : BitVec n} (hm : m.extractLsb' a l = BitVec.allOnes l)
    (h : w &&& m = v) : w.extractLsb' a l = v.extractLsb' a l := by
  rw [← h, BitVec.extractLsb'_and, hm, BitVec.and_allOnes]

section
variable {op : BitVec 8} {w m : Word}

theorem opcode_of_masked (hm : m.extractLsb' 24 8 = BitVec.allOnes 8) (h : w &&& m = op ++ 0#24) :
    w.extractLsb' 24 8 = op :=
  (extractLsb'_of_masked hm h).trans BitVec.extractLsb'_append_eq_left

/-- Bits of the operand field that the mask selects are zero. -/
theorem reserved_of_masked {a l : Nat} (hm : m.extractLsb' a l = BitVec.allOnes l) (h : w &&& m = op ++ 0#24)
    (hfield : a + l ≤ 24) : (w.extractLsb' 0 24).extractLsb' a l = 0#l := by
  rw [BitVec.extractLsb'_extractLsb'_of_le (by omega), extractLsb'_of_masked hm h,
    BitVec.extractLsb'_append_eq_of_add_le hfield, BitVec.extractLsb'_zero]

end

/-- Every word that selects this row and meets its constraints is a command. -/
def SelectsCommands (row : Word × Word) : Prop :=
  ∀ w : Word, w &&& row.2 = row.1 → constraint row.1 w → ∃ i, decode w = .command i

/-- The decoder sends the words of a row to the format of the row's opcode. -/
theorem selectsCommands_of_format {op : BitVec 8} {m : Word} {format : BitVec 24 → Decoded}
    (hop : decodeFields op = format) (hm : m.extractLsb' 24 8 = BitVec.allOnes 8)
    (hformat : ∀ w : Word, w &&& m = op ++ 0#24 → constraint (op ++ 0#24) w →
      ∃ i, format (w.extractLsb' 0 24) = .command i) : SelectsCommands (op ++ 0#24, m) := by
  intro w hrow hw
  rw [decode, opcode_of_masked hm hrow, hop]
  exact hformat w hrow hw

section
variable (op : BitVec 8)

theorem selectsCommands_Z (c : Instr) (h : decodeFields op = decodeZ c) :
    SelectsCommands (op ++ 0#24, 0xFFFFFFFF#32) :=
  selectsCommands_of_format h rfl fun _ hrow _ =>
    ⟨c, if_pos (BitVec.extractLsb'_eq_self.symm.trans (reserved_of_masked (a := 0) (l := 24) rfl hrow le_rfl))⟩

theorem selectsCommands_I (c : BitVec 24 → Instr) (h : decodeFields op = decodeI c) :
    SelectsCommands (op ++ 0#24, 0xFF000000#32) :=
  selectsCommands_of_format h rfl fun _ _ _ => ⟨_, rfl⟩

theorem selectsCommands_H (c : BitVec 16 → Instr) (h : decodeFields op = decodeH c) :
    SelectsCommands (op ++ 0#24, 0xFFFF0000#32) :=
  selectsCommands_of_format h rfl fun _ hrow _ => ⟨_, if_pos (reserved_of_masked rfl hrow (by decide))⟩

theorem selectsCommands_B (c : Byte → Instr) (h : decodeFields op = decodeB c) :
    SelectsCommands (op ++ 0#24, 0xFFFFFF00#32) :=
  selectsCommands_of_format h rfl fun _ hrow _ => ⟨_, if_pos (reserved_of_masked rfl hrow (by decide))⟩

theorem selectsCommands_X (c : Nibble → Instr) (h : decodeFields op = decodeX c) :
    SelectsCommands (op ++ 0#24, 0xFFFFFFF0#32) :=
  selectsCommands_of_format h rfl fun _ hrow _ => ⟨_, if_pos (reserved_of_masked rfl hrow (by decide))⟩

theorem selectsCommands_L (c : Nibble → Nibble → Instr) (h : decodeFields op = decodeL c) :
    SelectsCommands (op ++ 0#24, 0xFFFFFF00#32) :=
  selectsCommands_of_format h rfl fun _ hrow _ => ⟨_, if_pos (reserved_of_masked rfl hrow (by decide))⟩

variable {op} in
/-- The check of the subkey number is the constraint of the rows that have one. -/
theorem legalSubkey_of_constraint {w : Word} (hmem : op ++ 0#24 ∈ [0x10000000#32, 0x20000000#32, 0x82000000#32])
    (hw : constraint (op ++ 0#24) w) : legalSubkey ((w.extractLsb' 0 24).extractLsb' 20 4) = true := by
  rw [BitVec.extractLsb'_extractLsb'_of_le (by decide), legalSubkey_iff]
  exact hw.1 hmem

theorem selectsCommands_K (c : BitVec 4 → BitVec 20 → Instr) (h : decodeFields op = decodeK c)
    (hmem : op ++ 0#24 ∈ [0x10000000#32, 0x20000000#32, 0x82000000#32]) :
    SelectsCommands (op ++ 0#24, 0xFF000000#32) :=
  selectsCommands_of_format h rfl fun _ _ hw => ⟨_, if_pos (legalSubkey_of_constraint hmem hw)⟩

theorem selectsCommands_R (c : BitVec 4 → Instr) (h : decodeFields op = decodeR c)
    (hmem : op ++ 0#24 ∈ [0x10000000#32, 0x20000000#32, 0x82000000#32]) :
    SelectsCommands (op ++ 0#24, 0xFF0FFFFF#32) :=
  selectsCommands_of_format h rfl fun _ hrow hw =>
    ⟨_, (if_pos (reserved_of_masked rfl hrow (by decide))).trans (if_pos (legalSubkey_of_constraint hmem hw))⟩

theorem selectsCommands_U (c : BitVec 2 → BitVec 2 → Byte → Instr) (h : decodeFields op = decodeU c)
    (hop : op ++ 0#24 = 0x41000000#32) : SelectsCommands (op ++ 0#24, 0xFFFFF000#32) := by
  refine selectsCommands_of_format h rfl fun w hrow hw =>
    ⟨_, (if_pos (reserved_of_masked rfl hrow (by decide))).trans (if_pos ?_)⟩
  rw [BitVec.extractLsb'_extractLsb'_of_le (by decide), BitVec.extractLsb'_extractLsb'_of_le (by decide),
    distinctUnits_iff]
  exact hw.2 hop

end

theorem selectsCommands_of_mem_rows : ∀ row ∈ rows, SelectsCommands row := by
  simp only [rows, List.forall_mem_cons]
  exact ⟨selectsCommands_I 0x01 .lda rfl, selectsCommands_I 0x02 .ldp rfl, selectsCommands_Z 0x03 .mvp rfl,
    selectsCommands_K 0x10 .kset rfl (by decide), selectsCommands_Z 0x11 .kclr rfl,
    selectsCommands_B 0x12 .seedb rfl, selectsCommands_Z 0x13 .seedc rfl, selectsCommands_Z 0x14 .kgen rfl,
    selectsCommands_R 0x20 .xork rfl (by decide), selectsCommands_Z 0x21 .subf rfl,
    selectsCommands_Z 0x22 .subi rfl, selectsCommands_Z 0x23 .perm rfl, selectsCommands_Z 0x24 .enc rfl,
    selectsCommands_Z 0x25 .dec rfl, selectsCommands_Z 0x30 .latb rfl, selectsCommands_H 0x40 .apxp rfl,
    selectsCommands_U 0x41 .apxu rfl rfl, selectsCommands_Z 0x42 .rinit rfl, selectsCommands_Z 0x43 .smp rfl,
    selectsCommands_Z 0x44 .recov rfl, selectsCommands_Z 0x80 .rda rfl, selectsCommands_Z 0x81 .rdp rfl,
    selectsCommands_R 0x82 .rdk rfl (by decide), selectsCommands_Z 0x83 .rdst rfl, selectsCommands_X 0x84 .rdsf rfl,
    selectsCommands_X 0x85 .rdsi rfl, selectsCommands_X 0x86 .rdpb rfl, selectsCommands_L 0x87 .rdlat rfl,
    selectsCommands_B 0x88 .rdcnt rfl, selectsCommands_Z 0x89 .rdn rfl, selectsCommands_Z 0x8A .rdcand rfl,
    selectsCommands_B 0x8B .rddev rfl, selectsCommands_Z 0x8C .rdapx rfl, List.forall_mem_nil _⟩

/-! ### No word selects two rows -/

theorem rows_opcodes : (rows.map fun row => row.1.extractLsb' 24 8) = knownOpcodes := rfl

theorem rows_opcodeMasks : (rows.map fun row => row.2.extractLsb' 24 8) = List.replicate 33 (BitVec.allOnes 8) := rfl

theorem knownOpcodes_nodup : knownOpcodes.Nodup := by decide

/-- Every mask selects the whole opcode, so a selected row has the opcode of the word. -/
theorem opcode_eq_of_selected {w : Word} {row : Word × Word} (hmem : row ∈ rows) (hrow : w &&& row.2 = row.1) :
    row.1.extractLsb' 24 8 = w.extractLsb' 24 8 := by
  have hmask : row.2.extractLsb' 24 8 ∈ List.replicate 33 (BitVec.allOnes 8) :=
    rows_opcodeMasks ▸ List.mem_map_of_mem hmem
  exact (extractLsb'_of_masked (List.eq_of_mem_replicate hmask) hrow).symm

/-- The rows' opcodes are distinct. -/
theorem row_eq_of_selected {w : Word} {row row' : Word × Word} (hmem : row ∈ rows) (hmem' : row' ∈ rows)
    (hrow : w &&& row.2 = row.1) (hrow' : w &&& row'.2 = row'.1) : row = row' :=
  List.inj_on_of_nodup_map (rows_opcodes ▸ knownOpcodes_nodup) hmem hmem'
    ((opcode_eq_of_selected hmem hrow).trans (opcode_eq_of_selected hmem' hrow').symm)

/-- Settles O4: a command is decoded from its own word, which selects the command's row. -/
theorem wordsSelectTheirTableRow : Obligations.WordsSelectTheirTableRow := by
  refine ⟨fun w => ⟨?_, fun ⟨row, hmem, hrow, hw⟩ => selectsCommands_of_mem_rows row hmem w hrow hw⟩,
    fun w row hmem row' hmem' hrow hrow' => row_eq_of_selected hmem hmem' hrow hrow'⟩
  rintro ⟨i, hi⟩
  obtain ⟨hlegal, rfl⟩ := wellFormed_and_encode_of_decode hi
  exact ⟨tableRow i, tableRow_mem_rows i, encodesTableRow i, constraint_encode hlegal⟩

end Sys2Proof.Machine
end

section
/-! SUPPORT. What a command answers, said once for all 33: the check it makes, the data it returns and its writes
(`written`) determine the result. Relations between two runs of a command are then relations between these three. -/
namespace Sys2Proof.Machine

/-! ### The check, the data and the writes of a command -/

/-- The failure a command runs into, if any (60_exceptions.md R232 to R239). `exec_eq_concluded` ties it to `exec`. -/
def failureOf (i : Instr) (s : State) : Option FailKind :=
  match i with
  | .lda imm24 | .ldp imm24 => if fits16 imm24 then none else some .invalidBlockSize
  | .kset r imm20 =>
    (subkeyIndex r).elim (some .illegalCommand) fun _ => if fits16 imm20 then none else some .invalidKeyMaterial
  | .xork r | .rdk r =>
    (subkeyIndex r).elim (some .illegalCommand) fun j => if s.kv.get j then none else some .invalidKeyMaterial
  | .enc | .dec => if s.keyComplete then none else some .invalidKeyMaterial
  | .kgen => if s.seedLen.toNat < 16 then some .entropyUnavailable else none
  | .recov | .rddev _ => if s.n = 0 then some .emptySampleSet else none
  | .apxu thi tlo _ => if distinctUnits thi tlo then none else some .illegalCommand
  | .rdlat _ _ => if s.latv then none else some .notReady
  | .rdcand => if s.resv then none else some .notReady
  | .seedb _ => if s.seedLen = 64 then some .capacity else none
  | .smp => if s.n = 0xFFFFFFFF then some .capacity else none
  | .mvp | .kclr | .seedc | .subf | .subi | .perm | .latb | .apxp _ | .rinit | .rda | .rdp | .rdst | .rdsf _ | .rdsi _
  | .rdpb _ | .rdcnt _ | .rdn | .rdapx => none

/-- The data of a command that succeeds (30_encoding.md R95): a writer of `A` returns the new `A`, a read what it
reads, `RECOV` the candidate, and any other command 0. `exec_eq_concluded` ties it to `exec`. -/
def returned (i : Instr) (s : State) : Word :=
  match i with
  | .lda _ | .xork _ | .subf | .subi | .perm | .enc | .dec => (written i s).a.setWidth 32
  | .recov => (selectCandidate s.cnt s.n).setWidth 32
  | .rda => s.a.setWidth 32
  | .rdp => s.p.setWidth 32
  | .rdk r => (subkeyIndex r).elim 0 fun j => (s.k.get j).setWidth 32
  | .rdst => s.status
  | .rdsf x => (substitute x Config.chip.sbox.forward).setWidth 32
  | .rdsi x => (substitute x Config.chip.sbox.inverse).setWidth 32
  | .rdpb x => (substitute x Config.chip.pbox.table).setWidth 32
  | .rdlat a b => (s.latCell a b).setWidth 32
  | .rdcnt imm8 => s.cnt.get imm8.toFin
  | .rdn => s.n
  | .rdcand => s.cand.setWidth 32
  | .rddev imm8 => BitVec.ofNat 32 (dev2 (s.cnt.get imm8.toFin) s.n)
  | .rdapx => s.apx
  | .ldp _ | .mvp | .kset _ _ | .kclr | .seedb _ | .seedc | .kgen | .latb | .apxp _ | .apxu _ _ _ | .rinit | .smp => 0

/-- The end of a command issued in `s` that runs into this failure, or into none and returns `data` from `u`. -/
def concluded (f : Option FailKind) (data : Word) (u s : State) : Result :=
  match f with
  | none => ok data u
  | some e => fail e s

section
variable {c : Prop} [Decidable c] {e : FailKind} {data : Word} {u s : State}

theorem ite_ok_fail : (if c then ok data u else fail e s) = concluded (if c then none else some e) data u s := by
  split
  · rfl
  · rfl

theorem ite_fail_ok : (if c then fail e s else ok data u) = concluded (if c then some e else none) data u s := by
  split
  · rfl
  · rfl

end

/-- A command that makes no check succeeds, and one that makes a check fails or succeeds by it; a subkey number is
checked first. -/
theorem exec_eq_concluded (i : Instr) (s : State) :
    exec i s = concluded (failureOf i s) (returned i s) (written i s) s := by
  cases i with
  | mvp | kclr | seedc | subf | subi | perm | latb | apxp | rinit | rda | rdp | rdst | rdsf | rdsi | rdpb | rdcnt | rdn
  | rdapx => rfl
  | lda | ldp | enc | dec | apxu | rdlat | rdcand => exact ite_ok_fail
  | seedb | kgen | smp | recov | rddev => exact ite_fail_ok
  | kset r | xork r | rdk r =>
    simp only [exec, execKset, execXork, execRdk, failureOf, returned, written]
    cases subkeyIndex r with
    | none => rfl
    | some j => exact ite_ok_fail

section
variable {c : Prop} [Decidable c] {e : FailKind}

/-- A check that lets the command through when it holds. -/
theorem ite_none_eq_none_iff : (if c then none else some e) = none ↔ c := by simp

/-- A check that stops the command when it holds. -/
theorem ite_some_eq_none_iff : (if c then some e else none) = none ↔ ¬c := by simp

end

section
variable {i : Instr} {s : State}

theorem exec_of_failureOf_eq_none (h : failureOf i s = none) :
    exec i s = .next ((written i s).respond ⟨0, returned i s⟩) := by
  rw [exec_eq_concluded, h]
  rfl

theorem exec_of_failureOf_eq_some {e : FailKind} (h : failureOf i s = some e) : exec i s = .next (s.failed e) := by
  rw [exec_eq_concluded, h]
  rfl

end

end Sys2Proof.Machine
end

section
/-! SUPPORT. What a command reads and writes: no command reads `ERR` but `RDST`, nor the responses given; the recovery
engine reads no key; a read writes nothing; and each element has its writers (10_state.md, 20_memory.md,
60_exceptions.md, section 2). -/
namespace Sys2Proof.Machine
open Sys2Proof.Claims

/-! ### `ERR` and the responses are read by no command but `RDST` (10_state.md R35) -/

section
variable (i : Instr) (s : State) (err : BitVec 4) (output : List Response)

theorem failureOf_with_err_output : failureOf i { s with err := err, output := output } = failureOf i s := by
  cases i with
  | _ => rfl

theorem returned_with_output : returned i { s with output := output } = returned i s := by
  cases i with
  | xork r =>
    simp only [returned, written]
    cases subkeyIndex r with
    | none | some => rfl
  | _ => rfl

variable {i} in
theorem returned_with_err (hi : i ≠ .rdst) : returned i { s with err := err } = returned i s := by
  cases i with
  | rdst => exact absurd rfl hi
  | xork r =>
    simp only [returned, written]
    cases subkeyIndex r with
    | none | some => rfl
  | _ => rfl

theorem written_with_err : written i { s with err := err } = { written i s with err := err } := by
  cases i with
  | kset r | xork r =>
    simp only [written]
    cases subkeyIndex r with
    | none | some => rfl
  | _ => rfl

end

/-- Settles O12: with another `ERR` a command makes the same check, the same writes and, if it is not `RDST`, returns
the same data. -/
theorem errChangesNoBehaviour : Obligations.ErrChangesNoBehaviour := by
  intro i s err
  have hcheck : failureOf i { s with err := err } = failureOf i s := failureOf_with_err_output i s err s.output
  cases hfailure : failureOf i s with
  | some e =>
    rw [hfailure] at hcheck
    exact ⟨_, _, exec_of_failureOf_eq_some hfailure, exec_of_failureOf_eq_some hcheck, rfl, fun _ => rfl⟩
  | none =>
    rw [hfailure] at hcheck
    refine ⟨_, _, exec_of_failureOf_eq_none hfailure, exec_of_failureOf_eq_none hcheck, ?_, fun hi => ?_⟩
    · rw [written_with_err]
      rfl
    · rw [written_with_err, returned_with_err s err hi]
      rfl

/-! ### Reads (20_memory.md, section 3) -/

theorem written_of_read {i : Instr} (hi : 0x80 ≤ (opcode i).toNat) (s : State) : written i s = s := by
  cases i with
  | rda | rdp | rdk | rdst | rdsf | rdsi | rdpb | rdlat | rdcnt | rdn | rdcand | rddev | rdapx => rfl
  | _ => exact absurd hi (of_decide_eq_false rfl)

/-- Settles O17: a read writes nothing, so issued again it makes the same check and returns the same data. -/
theorem readsChangeNothing : Obligations.ReadsChangeNothing := by
  intro i s hi
  cases hfailure : failureOf i s with
  | some e =>
    have hagain : failureOf i (s.failed e) = some e := (failureOf_with_err_output i s _ _).trans hfailure
    exact ⟨s.failed e, ⟨e.code, 0⟩, exec_of_failureOf_eq_some hfailure, rfl, fun h => absurd h (code_ne_zero e),
      _, exec_of_failureOf_eq_some hagain, rfl⟩
  | none =>
    have hexec : exec i s = .next (s.respond ⟨0, returned i s⟩) := by
      rw [exec_of_failureOf_eq_none hfailure, written_of_read hi]
    have hagain : failureOf i (s.respond ⟨0, returned i s⟩) = none :=
      (failureOf_with_err_output i s _ _).trans hfailure
    have hdata : returned i (s.respond ⟨0, returned i s⟩) = returned i s := returned_with_output i s _
    refine ⟨s.respond ⟨0, returned i s⟩, ⟨0, returned i s⟩, hexec, rfl, fun _ => rfl, _,
      exec_of_failureOf_eq_none hagain, ?_⟩
    rw [written_of_read hi, State.respond_output, hdata]

/-! ### The recovery engine and the key (60_exceptions.md, section 2; 90_conflicts.md C5) -/

/-- The opcodes of `APXP`, `APXU`, `RINIT`, `SMP`, `RECOV`, `RDCNT`, `RDN`, `RDCAND`, `RDDEV` and `RDAPX`. -/
def recoveryOpcodes : List (BitVec 8) :=
  [0x40#8, 0x41#8, 0x42#8, 0x43#8, 0x44#8, 0x88#8, 0x89#8, 0x8A#8, 0x8B#8, 0x8C#8]

/-- The state with other subkeys and flags. -/
def State.withKey (s : State) (k : Vector Block 5) (kv : Vector Bool 5) : State := { s with k := k, kv := kv }

/-- With another key a command of the recovery engine makes the same check and the same writes and returns the same
data. -/
theorem recovery_withKey {i : Instr} (hi : opcode i ∈ recoveryOpcodes) (s : State) (k : Vector Block 5)
    (kv : Vector Bool 5) :
    failureOf i (s.withKey k kv) = failureOf i s ∧ returned i (s.withKey k kv) = returned i s ∧
      written i (s.withKey k kv) = (written i s).withKey k kv := by
  cases i with
  | apxp | apxu | rinit | smp | recov | rdcnt | rdn | rdcand | rddev | rdapx => exact ⟨rfl, rfl, rfl⟩
  | _ => exact absurd hi (of_decide_eq_false rfl)

theorem exec_withKey_of_recovery {i : Instr} (hi : opcode i ∈ recoveryOpcodes) (s : State) :
    ∃ t : State, exec i s = .next t ∧ ∀ k kv, exec i (s.withKey k kv) = .next (t.withKey k kv) := by
  cases hfailure : failureOf i s with
  | some e =>
    refine ⟨_, exec_of_failureOf_eq_some hfailure, fun k kv => ?_⟩
    obtain ⟨hcheck, -, -⟩ := recovery_withKey hi s k kv
    rw [exec_of_failureOf_eq_some (hcheck.trans hfailure)]
    rfl
  | none =>
    refine ⟨_, exec_of_failureOf_eq_none hfailure, fun k kv => ?_⟩
    obtain ⟨hcheck, hdata, hwrites⟩ := recovery_withKey hi s k kv
    rw [exec_of_failureOf_eq_none (hcheck.trans hfailure), hdata, hwrites]
    rfl

/-- Settles O58: a command of the engine commutes with the exchange of the key, so with the key exchanged for itself it
shows that it leaves the key. -/
theorem recoveryEngineIgnoresKey : Obligations.RecoveryEngineIgnoresKey := by
  intro i s k kv hi
  obtain ⟨t, hexec, hcommutes⟩ := exec_withKey_of_recovery hi s
  have hself : t = t.withKey s.k s.kv := Host.Outcome.next.inj (hexec.symm.trans (hcommutes s.k s.kv))
  exact ⟨t, hexec, (congrArg State.k hself :), (congrArg State.kv hself :), hcommutes k kv⟩

/-! ### The writers of each element -/

/-- The elements that differ between `s` and `t` are among those that the opcode writes. -/
def WritesByOpcode (op : BitVec 8) (s t : State) : Prop :=
  (t.a = s.a ∨ op ∈ [0x01#8, 0x20#8, 0x21#8, 0x22#8, 0x23#8, 0x24#8, 0x25#8]) ∧
  (t.p = s.p ∨ op ∈ [0x02#8, 0x03#8]) ∧
  ((t.k = s.k ∧ t.kv = s.kv) ∨ op ∈ [0x10#8, 0x11#8, 0x14#8]) ∧
  (t.seed = s.seed ∨ op ∈ [0x12#8]) ∧
  (t.seedLen = s.seedLen ∨ op ∈ [0x12#8, 0x13#8, 0x14#8]) ∧
  ((t.lat = s.lat ∧ t.latv = s.latv) ∨ op ∈ [0x30#8]) ∧
  ((t.cnt = s.cnt ∧ t.n = s.n) ∨ op ∈ [0x42#8, 0x43#8]) ∧
  (t.pmask = s.pmask ∨ op ∈ [0x40#8]) ∧
  ((t.umask = s.umask ∧ t.thi = s.thi ∧ t.tlo = s.tlo) ∨ op ∈ [0x41#8]) ∧
  ((t.cand = s.cand ∧ t.resv = s.resv) ∨ op ∈ [0x42#8, 0x43#8, 0x44#8]) ∧
  t.input = s.input

theorem WritesByOpcode.refl (op : BitVec 8) (s : State) : WritesByOpcode op s s := by
  simp [WritesByOpcode]

/-- The rules' assignments, read element by element: what an operation on the state does not assign it keeps. -/
theorem written_writesByOpcode (i : Instr) (s : State) : WritesByOpcode (opcode i) s (written i s) := by
  cases i with
  | kset r | xork r =>
    simp only [written]
    cases subkeyIndex r with
    | none => exact .refl _ s
    | some j => simp [WritesByOpcode, opcode]
  | _ => simp [WritesByOpcode, opcode, written]

/-- Settles O16: a command that fails keeps every element of the list, and one that succeeds makes its writes. -/
theorem writersOfEachElement : Obligations.WritersOfEachElement := by
  intro i s t h
  obtain ⟨data, rfl⟩ | ⟨e, rfl⟩ := exec_next h
  · exact written_writesByOpcode i s
  · exact WritesByOpcode.refl (opcode i) s

end Sys2Proof.Machine
end

section
/-! SUPPORT. The step, event by event (70_reset_and_hazards.md R260, R265), and the invariant of reachable states
(10_state.md, sections 4 to 7), which every write of a command keeps. -/
namespace Sys2Proof.Machine
open Sys2Proof.Claims

/-! ### The step on each event -/

theorem step_of_input_eq_nil {s : State} (h : s.input = []) : step s = .next s := by
  rw [step, nextEvent_nil h]

/-- A reset event, between two commands or during one (R260). -/
theorem step_of_input_eq_reset {s : State} {e : Event} {rest : List Event} (h : s.input = e :: rest)
    (he : e = .reset ∨ ∃ w, e = .resetDuring w) : step s = .next { s with input := rest }.takeReset := by
  rw [step, nextEvent_cons h]
  obtain rfl | ⟨w, rfl⟩ := he
  · rfl
  · rfl

/-- Settles O7: the two equations of the step without a command word. -/
theorem stepWithoutCommand : Obligations.StepWithoutCommand :=
  ⟨fun _ => step_of_input_eq_nil, fun _ _ _ => step_of_input_eq_reset⟩

/-- A word has 32 bits, so those that the table numbers are all of it. -/
theorem tableWord_toNat (w : Word) : tableWord 32 w.toNat = w := by
  rw [tableWord, Nat.mod_eq_of_lt w.isLt, BitVec.ofNat_toNat, BitVec.setWidth_eq]

theorem step_withFetchWord {i : Instr} (hi : WellFormed i) (s : State) :
    step (s.withFetchWord 32 (encode i).toNat) = exec i s := by
  rw [State.withFetchWord, tableWord_toNat]
  exact onWord_encode hi s

/-- Settles O6: the step acts on what the decoder answers, and the word of a legal command is decoded to it. -/
theorem stepRunsDecodedInstruction : Obligations.StepRunsDecodedInstruction := by
  refine ⟨fun s w rest i hinput hw => ?_, fun s i hi => step_withFetchWord hi s⟩
  rw [step_of_input_eq_command hinput, hw, handleDecoded_command]

/-! ### The invariant holds at reset -/

/-- Settles O13: no counter is above 0, and the reset values of the other elements meet their conditions as written. -/
theorem resetStateMeetsInvariant : Obligations.ResetStateMeetsInvariant where
  seedLen_le := by decide
  lat_built h := absurd h (by decide)
  cnt_le c := by
    rw [State.reset_cnt_get]
    exact Nat.zero_le _
  units_ne := by decide
  no_result _ := rfl
  result h := absurd h (by decide)
  err_le := by decide

/-! ### The writes of a command keep the invariant -/

section
variable {s t : State}

/-- The invariant says nothing of the elements named here. -/
theorem State.Inv.of_eq (h : s.Inv)
    (ht : t = { s with
      a := t.a, p := t.p, k := t.k, kv := t.kv, seed := t.seed, pmask := t.pmask, umask := t.umask
      input := t.input, output := t.output }) : t.Inv := by
  rw [ht]
  obtain ⟨hseedLen, hlat, hcnt, hunits, hnone, hresult, herr⟩ := h
  exact ⟨hseedLen, hlat, hcnt, hunits, hnone, hresult, herr⟩

theorem State.Inv.takeReset : s.takeReset.Inv := resetStateMeetsInvariant.of_eq rfl

/-- A failure changes `ERR` only, to the code of the failure if it was 0 (R35). -/
theorem State.Inv.failed (h : s.Inv) (e : FailKind) : (s.failed e).Inv where
  seedLen_le := h.seedLen_le
  lat_built := h.lat_built
  cnt_le := h.cnt_le
  units_ne := h.units_ne
  no_result := h.no_result
  result := h.result
  err_le := by
    rw [State.failed_err, stickyErr]
    split
    · exact code_toNat_le e
    · exact h.err_le

/-- A new `SEEDLEN` up to 64 (R25). -/
theorem State.Inv.of_seedLen_le (h : s.Inv) (hle : t.seedLen.toNat ≤ 64)
    (ht : t = { s with k := t.k, kv := t.kv, seed := t.seed, seedLen := t.seedLen }) : t.Inv := by
  rw [ht]
  exact { h with seedLen_le := hle }

theorem State.Inv.pushSeed (h : s.Inv) (hroom : s.seedLen ≠ 64) (b : Byte) : (s.pushSeed b).Inv := by
  have hlt : s.seedLen.toNat < 64 := lt_of_le_of_ne h.seedLen_le fun hfull => hroom (BitVec.eq_of_toNat_eq hfull)
  refine h.of_seedLen_le ?_ rfl
  rw [pushSeed_seedLen_toNat hlt]
  exact hlt

theorem State.Inv.setLat (h : s.Inv) : (s.setLat (latTable Config.chip.sbox)).Inv :=
  { h with lat_built := fun _ => rfl }

theorem State.Inv.setTarget (h : s.Inv) {thi tlo : BitVec 2} (hne : thi ≠ tlo) (umask : Byte) :
    (s.setTarget thi tlo umask).Inv :=
  { h with units_ne := hne }

/-- New counters, none above the new `N`, with no result (R28, R33). -/
theorem State.Inv.setCounts (h : s.Inv) {cnt : Vector Word 256} {n : Word}
    (hle : ∀ c : Byte, (cnt.get c.toFin).toNat ≤ n.toNat) : (s.setCounts cnt n).Inv :=
  { h with
    cnt_le := hle
    no_result := fun _ => rfl
    result := fun hvalid => absurd hvalid (by simp) }

theorem State.Inv.setResult (h : s.Inv) (hn : s.n ≠ 0) : (s.setResult (selectCandidate s.cnt s.n)).Inv :=
  { h with
    no_result := fun hnone => absurd hnone (by simp)
    result := fun _ => ⟨hn, rfl⟩ }

/-- A sample adds 1 to `N` and at most 1 to each counter. -/
theorem get_countSample_toNat_le {sb : SBox} {ap : Approximation} {pt ct : Block} {cnt : Vector Word 256} {n : Word}
    {c : Fin 256} (hle : (cnt.get c).toNat ≤ n.toNat) (hn : n.toNat < 2 ^ 32 - 1) :
    ((countSample sb ap pt ct cnt).get c).toNat ≤ (n + 1).toNat := by
  rw [get_countSample_toNat sb ap pt ct (hle.trans_lt hn), n_add_one_toNat hn]
  split
  · exact Nat.add_le_add_right hle 1
  · exact Nat.le_succ_of_le hle

/-- The writes of a command that passes its check. -/
theorem State.Inv.written (h : s.Inv) {i : Instr} (hok : failureOf i s = none) : (written i s).Inv := by
  cases i with
  | kset r | xork r =>
    rw [Machine.written]
    cases subkeyIndex r with
    | none => exact h
    | some j => exact h.of_eq rfl
  | seedb b => exact h.pushSeed (ite_some_eq_none_iff.mp hok) b
  | seedc | kgen => exact h.of_seedLen_le (Nat.zero_le 64) rfl
  | latb => exact h.setLat
  | apxu thi tlo umask =>
    exact h.setTarget ((distinctUnits_iff thi tlo).mp (ite_none_eq_none_iff.mp hok)) umask
  | rinit => exact h.setCounts fun c => (congrArg BitVec.toNat (get_replicate 0#32 c.toFin)).le
  | smp =>
    have hlt : s.n.toNat < 2 ^ 32 - 1 := by
      have hroom : s.n ≠ 0xFFFFFFFF := ite_some_eq_none_iff.mp hok
      have hne : s.n.toNat ≠ 2 ^ 32 - 1 := fun hfull => hroom (BitVec.eq_of_toNat_eq hfull)
      have := s.n.isLt
      omega
    exact h.setCounts fun c => get_countSample_toNat_le (h.cnt_le c) hlt
  | recov => exact h.setResult (ite_some_eq_none_iff.mp hok)
  | _ => exact h.of_eq rfl

theorem State.Inv.exec (h : s.Inv) {i : Instr} (ht : exec i s = .next t) : t.Inv := by
  cases hfailure : failureOf i s with
  | none =>
    obtain rfl := Host.Outcome.next.inj ((exec_of_failureOf_eq_none hfailure).symm.trans ht)
    exact (h.written hfailure).of_eq rfl
  | some e =>
    obtain rfl := Host.Outcome.next.inj ((exec_of_failureOf_eq_some hfailure).symm.trans ht)
    exact h.failed e

theorem State.Inv.handleDecoded (h : s.Inv) {d : Decoded} (ht : handleDecoded d s = .next t) : t.Inv := by
  cases d with
  | command i => exact h.exec ht
  | illegal why =>
    obtain rfl := Host.Outcome.next.inj ht
    exact h.failed .illegalCommand

end

/-- Settles O14: by the next event; a command that passes its check makes writes that keep the invariant, and a failure
records a legal code. -/
theorem everyStepKeepsInvariant : Obligations.EveryStepKeepsInvariant := by
  intro s t h ht
  cases hinput : s.input with
  | nil =>
    obtain rfl := Host.Outcome.next.inj ((step_of_input_eq_nil hinput).symm.trans ht)
    exact h
  | cons e rest =>
    have htaken : { s with input := rest }.Inv := h.of_eq rfl
    cases e with
    | command w => exact htaken.handleDecoded ((step_of_input_eq_command hinput).symm.trans ht)
    | reset =>
      obtain rfl := Host.Outcome.next.inj ((step_of_input_eq_reset hinput (.inl rfl)).symm.trans ht)
      exact .takeReset
    | resetDuring w =>
      obtain rfl := Host.Outcome.next.inj ((step_of_input_eq_reset hinput (.inr ⟨w, rfl⟩)).symm.trans ht)
      exact .takeReset

end Sys2Proof.Machine
end

section
/-! SUPPORT. The contents that no command can observe (10_state.md R23, R25, R26; 70_reset_and_hazards.md R261): two
states that differ only there stay so under every write, and every command returns the same data in both. -/
namespace Sys2Proof
open Machine Claims

/-! ### What keeps the relation whatever the states hold -/

section
variable {s u : State}

theorem Claims.SameButUnobservable.refl (s : State) : SameButUnobservable s s :=
  ⟨rfl, fun _ _ => rfl, fun _ _ => rfl, fun _ => rfl⟩

theorem Claims.SameButUnobservable.input_eq (h : SameButUnobservable s u) : u.input = s.input := by
  rw [h.1]

theorem Claims.SameButUnobservable.a_eq (h : SameButUnobservable s u) : u.a = s.a := by
  rw [h.1]

theorem Claims.SameButUnobservable.respond (h : SameButUnobservable s u) (r : Response) :
    SameButUnobservable (s.respond r) (u.respond r) := by
  obtain ⟨hu, hk, hseed, hlat⟩ := h
  exact ⟨congrArg (State.respond · r) hu, hk, hseed, hlat⟩

theorem Claims.SameButUnobservable.failed (h : SameButUnobservable s u) (e : FailKind) :
    SameButUnobservable (s.failed e) (u.failed e) := by
  obtain ⟨hu, hk, hseed, hlat⟩ := h
  exact ⟨congrArg (State.failed · e) hu, hk, hseed, hlat⟩

theorem Claims.SameButUnobservable.taken (h : SameButUnobservable s u) (rest : List Event) :
    SameButUnobservable { s with input := rest } { u with input := rest } := by
  obtain ⟨hu, hk, hseed, hlat⟩ := h
  exact ⟨congrArg (fun s : State => { s with input := rest }) hu, hk, hseed, hlat⟩

theorem Claims.SameButUnobservable.takeReset (h : SameButUnobservable s u) :
    SameButUnobservable s.takeReset u.takeReset := by
  have hsame : u.takeReset = s.takeReset := (congrArg State.takeReset h.1 :)
  rw [hsame]
  exact .refl s.takeReset

end

/-! ### Other contents, where they may differ -/

/-- The state with other subkeys, seed bytes and LAT. -/
def Machine.State.withContents (s : State) (k : Vector Block 5) (seed : Vector Byte 64)
    (lat : Vector (Vector LatCell 16) 16) : State :=
  { s with k := k, seed := seed, lat := lat }

section
variable {s : State} {k : Vector Block 5} {seed : Vector Byte 64} {lat : Vector (Vector LatCell 16) 16}

/-- The flags and lengths decide every check, not the contents. -/
theorem failureOf_withContents (i : Instr) (s : State) (k : Vector Block 5) (seed : Vector Byte 64)
    (lat : Vector (Vector LatCell 16) 16) : failureOf i (s.withContents k seed lat) = failureOf i s := by
  cases i with
  | _ => rfl

/-- With a complete key no subkey may differ. -/
theorem keys_eq_of_complete (hk : ∀ i : Fin 5, s.kv.get i = true → k.get i = s.k.get i)
    (hcomplete : s.keyComplete = true) : k = s.k :=
  vector_ext_get fun i => hk i ((keyComplete_iff s).mp hcomplete i)

theorem get_set_eq_of_present (hk : ∀ i : Fin 5, s.kv.get i = true → k.get i = s.k.get i) (j : Fin 5) (v : Block)
    (i : Fin 5) (hi : (s.kv.set j true).get i = true) : (k.set j v).get i = (s.k.set j v).get i := by
  rw [get_set] at hi
  rw [get_set, get_set]
  by_cases hij : j = i
  · rw [if_pos hij, if_pos hij]
  · rw [if_neg hij] at hi
    rw [if_neg hij, if_neg hij, hk i hi]

/-- A pushed byte makes one more byte valid, the same in both buffers. -/
theorem get_pushSeed_eq (hseed : ∀ j : Fin 64, j.val < s.seedLen.toNat → seed.get j = s.seed.get j) (b : Byte)
    (j : Fin 64) (hj : j.val < (s.seedLen + 1).toNat) :
    (seed.setIfInBounds s.seedLen.toNat b).get j = (s.seed.setIfInBounds s.seedLen.toNat b).get j := by
  rw [get_setIfInBounds, get_setIfInBounds]
  by_cases hnew : j.val = s.seedLen.toNat
  · rw [if_pos hnew, if_pos hnew]
  · have hle : (s.seedLen + 1).toNat ≤ s.seedLen.toNat + 1 := Nat.mod_le _ _
    rw [if_neg hnew, if_neg hnew, hseed j (by omega)]

/-- Only the valid bytes are hashed. -/
theorem take_seed_eq (hseed : ∀ j : Fin 64, j.val < s.seedLen.toNat → seed.get j = s.seed.get j) :
    seed.toList.take s.seedLen.toNat = s.seedBytes := by
  refine List.ext_getElem (by simp [State.seedBytes]) fun j hj hj' => ?_
  rw [List.length_take, Vector.length_toList] at hj
  have hsame : seed[j] = s.seed[j] := hseed ⟨j, by omega⟩ (by simp only; omega)
  simpa [State.seedBytes] using hsame

/-- A command that passes its check writes nothing that depends on the contents that may differ. -/
theorem Claims.SameButUnobservable.written (h : SameButUnobservable s (s.withContents k seed lat)) {i : Instr}
    (hok : failureOf i s = none) :
    SameButUnobservable (written i s) (written i (s.withContents k seed lat)) := by
  obtain ⟨-, hk, hseed, hlat⟩ := h
  cases i with
  | kset r imm20 =>
    rw [Machine.written, Machine.written]
    cases subkeyIndex r with
    | none => exact ⟨rfl, hk, hseed, hlat⟩
    | some j => exact ⟨rfl, get_set_eq_of_present hk j _, hseed, hlat⟩
  | kclr => exact ⟨rfl, fun _ _ => rfl, hseed, hlat⟩
  | seedb b => exact ⟨rfl, hk, get_pushSeed_eq hseed b, hlat⟩
  | seedc => exact ⟨rfl, hk, fun j hj => absurd hj (Nat.not_lt_zero j), hlat⟩
  | kgen =>
    have hkeys : generateKey Config.chip (s.withContents k seed lat).seedBytes = generateKey Config.chip s.seedBytes :=
      congrArg (generateKey Config.chip) (take_seed_eq hseed)
    exact ⟨rfl, fun i _ => congrArg (·.get i) hkeys, fun j hj => absurd hj (Nat.not_lt_zero j), hlat⟩
  | xork r =>
    rw [failureOf] at hok
    rw [Machine.written, Machine.written]
    cases hr : subkeyIndex r with
    | none => exact ⟨rfl, hk, hseed, hlat⟩
    | some j =>
      rw [hr] at hok
      have hsame : k.get j = s.k.get j := hk j (ite_none_eq_none_iff.mp hok)
      refine ⟨?_, hk, hseed, hlat⟩
      change (s.withContents k seed lat).setA (s.a ^^^ k.get j) = _
      rw [hsame]
      rfl
  | enc | dec =>
    obtain rfl := keys_eq_of_complete hk (ite_none_eq_none_iff.mp hok)
    exact ⟨rfl, hk, hseed, hlat⟩
  | latb => exact ⟨rfl, hk, hseed, fun _ => rfl⟩
  | _ => exact ⟨rfl, hk, hseed, hlat⟩

/-- A command that passes its check returns nothing that depends on the contents that may differ. -/
theorem Claims.SameButUnobservable.returned_eq (h : SameButUnobservable s (s.withContents k seed lat)) {i : Instr}
    (hok : failureOf i s = none) : returned i (s.withContents k seed lat) = returned i s := by
  cases i with
  | lda | xork | subf | subi | perm | enc | dec =>
    exact congrArg (·.setWidth 32) (h.written hok).a_eq
  | rdk r =>
    rw [failureOf] at hok
    rw [returned, returned]
    cases hr : subkeyIndex r with
    | none => rfl
    | some j =>
      obtain ⟨-, hk, -, -⟩ := h
      rw [hr] at hok
      exact congrArg (·.setWidth 32) (hk j (ite_none_eq_none_iff.mp hok))
  | rdlat a b =>
    obtain ⟨-, -, -, hlat⟩ := h
    exact congrArg (fun lat => ((lat.get a.toFin).get b.toFin).setWidth 32) (hlat (ite_none_eq_none_iff.mp hok))
  | _ => rfl

end

/-! ### Commands and steps -/

section
variable {s u : State}

theorem Claims.SameButUnobservable.exec (h : SameButUnobservable s u) (i : Instr) :
    ∃ t v, exec i s = .next t ∧ exec i u = .next v ∧ SameButUnobservable t v := by
  obtain ⟨k, seed, lat, rfl⟩ : ∃ k seed lat, u = s.withContents k seed lat := ⟨_, _, _, h.1⟩
  have hcheck : failureOf i (s.withContents k seed lat) = failureOf i s := failureOf_withContents i s k seed lat
  cases hfailure : failureOf i s with
  | some e =>
    exact ⟨_, _, exec_of_failureOf_eq_some hfailure, exec_of_failureOf_eq_some (hcheck.trans hfailure), h.failed e⟩
  | none =>
    refine ⟨_, _, exec_of_failureOf_eq_none hfailure, exec_of_failureOf_eq_none (hcheck.trans hfailure), ?_⟩
    rw [h.returned_eq hfailure]
    exact (h.written hfailure).respond _

theorem Claims.SameButUnobservable.handleDecoded (h : SameButUnobservable s u) (d : Decoded) :
    ∃ t v, handleDecoded d s = .next t ∧ handleDecoded d u = .next v ∧ SameButUnobservable t v := by
  cases d with
  | command i => exact h.exec i
  | illegal why => exact ⟨_, _, rfl, rfl, h.failed .illegalCommand⟩

end

/-- Settles O15: both states take the same event, and a command passes its check in both or in neither. -/
theorem unspecifiedContentsUnobservable : Obligations.UnspecifiedContentsUnobservable := by
  intro s u h
  cases hinput : s.input with
  | nil => exact ⟨s, u, step_of_input_eq_nil hinput, step_of_input_eq_nil (h.input_eq.trans hinput), h⟩
  | cons e rest =>
    have hinput' : u.input = e :: rest := h.input_eq.trans hinput
    cases e with
    | command w =>
      rw [step_of_input_eq_command hinput, step_of_input_eq_command hinput']
      exact (h.taken rest).handleDecoded (decode w)
    | reset =>
      exact ⟨_, _, step_of_input_eq_reset hinput (.inl rfl), step_of_input_eq_reset hinput' (.inl rfl),
        (h.taken rest).takeReset⟩
    | resetDuring w =>
      exact ⟨_, _, step_of_input_eq_reset hinput (.inr ⟨w, rfl⟩),
        step_of_input_eq_reset hinput' (.inr ⟨w, rfl⟩), (h.taken rest).takeReset⟩

end Sys2Proof
end

section
/-! SUPPORT. Transactions: runs of a few commands from a state with a complete key (44_cipher.md, section 2;
30_encoding.md, section 7). -/
namespace Sys2Proof.Machine
open Sys2Proof.Claims

/-- Settles O49: the hypothesis maps the candidates one to one onto the bytes, half of which have odd parity under a
nonzero mask. -/
theorem smpMovesHalfTheCounters : Obligations.SmpMovesHalfTheCounters := card_evaluate_eq_false

/-! ### Two commands that write `A` -/

/-- The state that a command leaves which ends with the new value `v` of `A`. -/
def State.answeredA (s : State) (v : Block) : State := (s.setA v).respond ⟨0, v.setWidth 32⟩

section
variable (s : State) (v : Block)

@[simp] theorem State.answeredA_a : (s.answeredA v).a = v := rfl
@[simp] theorem State.answeredA_k : (s.answeredA v).k = s.k := rfl
@[simp] theorem State.answeredA_kv : (s.answeredA v).kv = s.kv := rfl

end

theorem run_two_writers {i j : Instr} {s : State} {v w : Block} (hi : WellFormed i) (hj : WellFormed j)
    (h : exec i s = okA v s) (h' : exec j (s.answeredA v) = okA w (s.answeredA v)) :
    run (program [i, j]) s =
      { s with a := w, output := s.output ++ [⟨0, v.setWidth 32⟩, ⟨0, w.setWidth 32⟩] } := by
  have hout : s.output ++ [⟨0, v.setWidth 32⟩] ++ [⟨0, w.setWidth 32⟩] =
      s.output ++ [⟨0, v.setWidth 32⟩, ⟨0, w.setWidth 32⟩] := List.append_assoc ..
  calc run (program [i, j]) s
    _ = run (program [j]) (s.answeredA v) := run_program_cons hi h [j]
    _ = (s.answeredA v).answeredA w := run_program_cons hj h' []
    _ = _ := by rw [← hout]; rfl

/-- Settles O42: encryption and decryption undo each other, and neither command writes anything but `A`. -/
theorem encThenDecRestoresBlock : Obligations.EncThenDecRestoresBlock := by
  intro s hcomplete
  refine ⟨⟨encrypt Config.chip s.k s.a, run_two_writers rfl rfl (exec_enc_of_complete hcomplete) ?_⟩,
    ⟨decrypt Config.chip s.k s.a, run_two_writers rfl rfl (exec_dec_of_complete hcomplete) ?_⟩⟩
  · rw [exec_dec_of_complete (s := s.answeredA (encrypt Config.chip s.k s.a)) hcomplete, State.answeredA_k,
      State.answeredA_a, decrypt_encrypt]
  · rw [exec_enc_of_complete (s := s.answeredA (decrypt Config.chip s.k s.a)) hcomplete, State.answeredA_k,
      State.answeredA_a, encrypt_decrypt]

/-! ### The pseudo-instructions (R98) -/

section
variable {s : State} (x : Block)

theorem run_encrypt (hcomplete : ∀ j, s.kv.get j = true) :
    run (program (expansion (.encrypt (x.setWidth 24)))) s =
      { s with
        a := encrypt Config.chip s.k x
        output := s.output ++ [⟨0, x.setWidth 32⟩, ⟨0, (encrypt Config.chip s.k x).setWidth 32⟩] } :=
  run_two_writers rfl rfl (exec_lda_of_block x s) (exec_enc_of_complete hcomplete)

theorem run_decrypt (hcomplete : ∀ j, s.kv.get j = true) :
    run (program (expansion (.decrypt (x.setWidth 24)))) s =
      { s with
        a := decrypt Config.chip s.k x
        output := s.output ++ [⟨0, x.setWidth 32⟩, ⟨0, (decrypt Config.chip s.k x).setWidth 32⟩] } :=
  run_two_writers rfl rfl (exec_lda_of_block x s) (exec_dec_of_complete hcomplete)

/-- The state in which `GENSAMPLE x` counts its sample: the honest pair of `x` stands in `P` and `A`. -/
def State.honestPair (s : State) : State :=
  (((s.answeredA x).setP x).respond ⟨0, 0⟩).answeredA (encrypt Config.chip s.k x)

theorem run_gensample (hcomplete : ∀ j, s.kv.get j = true) :
    run (program (expansion (.gensample (x.setWidth 24)))) s = run (program [.smp]) (s.honestPair x) :=
  calc run (program [.lda (x.setWidth 24), .mvp, .enc, .smp]) s
    _ = run (program [.mvp, .enc, .smp]) (s.answeredA x) := run_program_cons rfl (exec_lda_of_block x s) _
    _ = run (program [.enc, .smp]) (((s.answeredA x).setP x).respond ⟨0, 0⟩) := run_program_cons rfl (exec_mvp _) _
    _ = run (program [.smp]) (s.honestPair x) :=
      run_program_cons rfl (exec_enc_of_complete (s := ((s.answeredA x).setP x).respond ⟨0, 0⟩) hcomplete) _

/-- Below the limit of `N` the sample is counted, with no failure. -/
theorem run_smp_honestPair (hlt : s.n.toNat < 2 ^ 32 - 1) :
    let u := run (program [.smp]) (s.honestPair x)
    u.p = x ∧ u.a = encrypt Config.chip s.k x ∧ u.n.toNat = s.n.toNat + 1 ∧ u.err = s.err := by
  rw [run_program_cons rfl (exec_smp_of_lt (s := s.honestPair x) hlt)]
  exact ⟨rfl, rfl, n_add_one_toNat hlt, rfl⟩

end

/-! `KLOAD` -/

theorem exec_kset_of_block {r : BitVec 4} {j : Fin 5} (hr : r.toNat = j.val + 1) (v : Block) (s : State) :
    exec (.kset r (v.setWidth 20)) s = ok 0 (s.setKey j v) := by
  rw [exec_kset hr, if_pos (fits16_setWidth 20 v), setWidth16_setWidth 20 (by decide)]

/-- The state with another key and other responses given, which is all that `KLOAD` changes. -/
def State.withKeyOutput (s : State) (k : Vector Block 5) (kv : Vector Bool 5) (output : List Response) : State :=
  { s with k := k, kv := kv, output := output }

theorem run_kset_cons {r : BitVec 4} {j : Fin 5} (hr : r.toNat = j.val + 1) (v : Block) (is : List Instr) (s : State)
    (k : Vector Block 5) (kv : Vector Bool 5) (output : List Response) :
    run (program (.kset r (v.setWidth 20) :: is)) (s.withKeyOutput k kv output) =
      run (program is) (s.withKeyOutput (k.set j v) (kv.set j true) (output ++ [⟨0, 0⟩])) :=
  run_program_cons (i := .kset r (v.setWidth 20)) (legalSubkey_of_eq hr) (exec_kset_of_block hr v _) is

theorem set_all_keys (k : Vector Block 5) (k1 k2 k3 k4 k5 : Block) :
    ((((k.set (0 : Fin 5) k1).set (1 : Fin 5) k2).set (2 : Fin 5) k3).set (3 : Fin 5) k4).set (4 : Fin 5) k5 =
      #v[k1, k2, k3, k4, k5] := by
  refine vector_ext_get fun i => ?_
  simp only [get_set]
  fin_cases i <;> rfl

theorem set_all_flags (kv : Vector Bool 5) :
    ((((kv.set (0 : Fin 5) true).set (1 : Fin 5) true).set (2 : Fin 5) true).set (3 : Fin 5) true).set (4 : Fin 5)
      true = Vector.replicate 5 true := by
  refine vector_ext_get fun i => ?_
  simp only [get_set, get_replicate]
  fin_cases i <;> rfl

theorem run_kload (s : State) (k1 k2 k3 k4 k5 : Block) :
    run (program (expansion (.kload (k1.setWidth 20) (k2.setWidth 20) (k3.setWidth 20) (k4.setWidth 20)
      (k5.setWidth 20)))) s =
        s.withKeyOutput #v[k1, k2, k3, k4, k5] (Vector.replicate 5 true)
          (s.output ++ List.replicate 5 ⟨0, 0⟩) := by
  have hself : s = s.withKeyOutput s.k s.kv s.output := rfl
  have houtput : s.output ++ List.replicate 5 ⟨0, 0⟩ =
      s.output ++ [⟨0, 0⟩] ++ [⟨0, 0⟩] ++ [⟨0, 0⟩] ++ [⟨0, 0⟩] ++ [⟨0, 0⟩] := by simp
  rw [expansion, houtput, ← set_all_keys s.k, ← set_all_flags s.kv]
  conv_lhs => rw [hself]
  rw [run_kset_cons (j := 0) rfl, run_kset_cons (j := 1) rfl, run_kset_cons (j := 2) rfl, run_kset_cons (j := 3) rfl,
    run_kset_cons (j := 4) rfl]
  rfl

/-- Settles O59: `KLOAD` leaves a complete key, so the commands that follow encrypt and decrypt with it. -/
theorem pseudoInstructionsRenderCalls : Obligations.PseudoInstructionsRenderCalls := by
  intro s k1 k2 k3 k4 k5 x key c t
  have ht : t = s.withKeyOutput key (Vector.replicate 5 true) (s.output ++ List.replicate 5 ⟨0, 0⟩) :=
    run_kload s k1 k2 k3 k4 k5
  have hcomplete (j : Fin 5) : t.kv.get j = true := by
    rw [ht]
    exact get_replicate true j
  have hk : t.k = key := by rw [ht]; rfl
  have hn : t.n = s.n := by rw [ht]; rfl
  have herr : t.err = s.err := by rw [ht]; rfl
  refine ⟨ht, ?_, ?_, fun hlt => ?_⟩
  · rw [run_encrypt x hcomplete, hk]
  · rw [run_decrypt c hcomplete, hk, decrypt_encrypt]
  · rw [run_gensample x hcomplete, ← hn, ← herr]
    have hsample := run_smp_honestPair x (s := t) (hn ▸ hlt)
    rwa [hk] at hsample

end Sys2Proof.Machine
end
